-- ==== Sys2Proof/Word.lean ====
section
/-!
DEFINITION. The two word types of the core (00_scope.md R9): the 8-bit data word and the 16-bit address and
register-pair word.
-/

namespace Sys2Proof

/-- The data word, an 8-bit register and an opcode byte (R9). -/
abbrev Byte := BitVec 8

/-- An address, PC, SP and a register pair (R9). -/
abbrev Word := BitVec 16

end Sys2Proof
end

