-- ==== Sys2Proof/Machine/Bytes.lean ====
section
/-!
DEFINITION. Byte order, sign extension and bit-field helpers (00_scope.md R13, R14).
-/

namespace Sys2Proof

/-- `hi(v16) = v16[15:8]` (R14). -/
def hi (w : Word) : Byte := w.extractLsb' 8 8

/-- `lo(v16) = v16[7:0]` (R14). -/
def lo (w : Word) : Byte := w.extractLsb' 0 8

/-- `cat(h, l) = (h << 8) | l` (R14). -/
def cat (h l : Byte) : Word := h ++ l

/-- `sext_8(v)`, two's complement, widened to 16 bits (R14). -/
def sext8 (v : Byte) : Word := v.signExtend 16

/-- The page address `0xFF00 + n` of LDH and LD (C) (R306, R418). -/
def highPage (n : Byte) : Word := 0xFF00 + n.setWidth 16

/-- `op[7:6]` (R301). -/
def fieldX (op : Byte) : Nat := op.toNat / 64

/-- `op[5:3]` (R301). -/
def fieldY (op : Byte) : Nat := op.toNat / 8 % 8

/-- `op[2:0]` (R301). -/
def fieldZ (op : Byte) : Nat := op.toNat % 8

/-- `op[5:4]` (R301). -/
def fieldP (op : Byte) : Nat := op.toNat / 16 % 4

/-- `op[3]` (R301). -/
def fieldQ (op : Byte) : Nat := op.toNat / 8 % 2

/-- `op[4:3]`, the condition field of the conditional transfers (R301). -/
def fieldCc (op : Byte) : Nat := op.toNat / 8 % 4

end Sys2Proof
end

