-- ==== Sys2Proof/Syntax.lean ====
section
/-!
DEFINITION. The instructions as syntax: one constructor for each of the 512 rows of spec/opcode_table.json, with
the immediate operand where the row has one, and the small types that name operands.

Constructor names spell the row: `mHL` is the memory operand (HL), `mHLi` and `mHLd` are (HL+) and (HL-), `mBC`, `mDE`,
`mC` are (BC), (DE), (C), `ma16` and `ma8` are (a16) and (a8).
-/

namespace Sys2Proof

/-- The 8-bit operand of the fields `sss`, `ddd`, `rrr`, in index order 0 to 7; index 6 is memory at HL (R305). -/
inductive R8
  | b | c | d | e | h | l | mHL | a
  deriving DecidableEq, Repr

/-- The 16-bit registers and pair views (R104, R107, R108); AF and SP share index 3 of the field `pp` (R307). -/
inductive Reg16
  | bc | de | hl | sp | af
  deriving DecidableEq, Repr

/-- The condition field `cc` in index order 0 to 3 (R308, R900). -/
inductive Cond
  | nz | z | nc | c
  deriving DecidableEq, Repr

/-- The accumulator operations of the field `ooo`, in index order 0 to 7 (R303). -/
inductive AluOp
  | add | adc | sub | sbc | and | xor | or | cp
  deriving DecidableEq, Repr

/-- The CB rotates and shifts of the field `ooo`, in index order 0 to 7 (R301, R804). -/
inductive RotOp
  | rlc | rrc | rl | rr | sla | sra | swap | srl
  deriving DecidableEq, Repr

/-- The instructions: one constructor per row of spec/opcode_table.json. -/
inductive Instr
  -- 8-bit loads between registers and (HL): `01 ddd sss` (R401, R402, R403)
  | ld_B_B
  | ld_B_C
  | ld_B_D
  | ld_B_E
  | ld_B_H
  | ld_B_L
  | ld_B_mHL
  | ld_B_A
  | ld_C_B
  | ld_C_C
  | ld_C_D
  | ld_C_E
  | ld_C_H
  | ld_C_L
  | ld_C_mHL
  | ld_C_A
  | ld_D_B
  | ld_D_C
  | ld_D_D
  | ld_D_E
  | ld_D_H
  | ld_D_L
  | ld_D_mHL
  | ld_D_A
  | ld_E_B
  | ld_E_C
  | ld_E_D
  | ld_E_E
  | ld_E_H
  | ld_E_L
  | ld_E_mHL
  | ld_E_A
  | ld_H_B
  | ld_H_C
  | ld_H_D
  | ld_H_E
  | ld_H_H
  | ld_H_L
  | ld_H_mHL
  | ld_H_A
  | ld_L_B
  | ld_L_C
  | ld_L_D
  | ld_L_E
  | ld_L_H
  | ld_L_L
  | ld_L_mHL
  | ld_L_A
  | ld_mHL_B
  | ld_mHL_C
  | ld_mHL_D
  | ld_mHL_E
  | ld_mHL_H
  | ld_mHL_L
  | ld_mHL_A
  | ld_A_B
  | ld_A_C
  | ld_A_D
  | ld_A_E
  | ld_A_H
  | ld_A_L
  | ld_A_mHL
  | ld_A_A
  -- 8-bit immediate loads: `00 rrr 110`, imm8 (R404, R405)
  | ld_B_d8 (n : Byte)
  | ld_C_d8 (n : Byte)
  | ld_D_d8 (n : Byte)
  | ld_E_d8 (n : Byte)
  | ld_H_d8 (n : Byte)
  | ld_L_d8 (n : Byte)
  | ld_mHL_d8 (n : Byte)
  | ld_A_d8 (n : Byte)
  -- accumulator loads and stores through BC, DE, HL+ and HL- (R406 to R413)
  | ld_mBC_A
  | ld_A_mBC
  | ld_mDE_A
  | ld_A_mDE
  | ld_mHLi_A
  | ld_A_mHLi
  | ld_mHLd_A
  | ld_A_mHLd
  -- absolute and high-page loads and stores (R414 to R419)
  | ldh_ma8_A (n : Byte)
  | ld_mC_A
  | ld_ma16_A (w : Word)
  | ldh_A_ma8 (n : Byte)
  | ld_A_mC
  | ld_A_ma16 (w : Word)
  -- ADD A,s: register, (HL) and immediate forms (R501)
  | add_A_B
  | add_A_C
  | add_A_D
  | add_A_E
  | add_A_H
  | add_A_L
  | add_A_mHL
  | add_A_A
  | add_A_d8 (n : Byte)
  -- ADC A,s: register, (HL) and immediate forms (R502)
  | adc_A_B
  | adc_A_C
  | adc_A_D
  | adc_A_E
  | adc_A_H
  | adc_A_L
  | adc_A_mHL
  | adc_A_A
  | adc_A_d8 (n : Byte)
  -- SUB A,s: register, (HL) and immediate forms (R503)
  | sub_A_B
  | sub_A_C
  | sub_A_D
  | sub_A_E
  | sub_A_H
  | sub_A_L
  | sub_A_mHL
  | sub_A_A
  | sub_A_d8 (n : Byte)
  -- SBC A,s: register, (HL) and immediate forms (R504)
  | sbc_A_B
  | sbc_A_C
  | sbc_A_D
  | sbc_A_E
  | sbc_A_H
  | sbc_A_L
  | sbc_A_mHL
  | sbc_A_A
  | sbc_A_d8 (n : Byte)
  -- AND A,s: register, (HL) and immediate forms (R505)
  | and_A_B
  | and_A_C
  | and_A_D
  | and_A_E
  | and_A_H
  | and_A_L
  | and_A_mHL
  | and_A_A
  | and_A_d8 (n : Byte)
  -- XOR A,s: register, (HL) and immediate forms (R506)
  | xor_A_B
  | xor_A_C
  | xor_A_D
  | xor_A_E
  | xor_A_H
  | xor_A_L
  | xor_A_mHL
  | xor_A_A
  | xor_A_d8 (n : Byte)
  -- OR A,s: register, (HL) and immediate forms (R507)
  | or_A_B
  | or_A_C
  | or_A_D
  | or_A_E
  | or_A_H
  | or_A_L
  | or_A_mHL
  | or_A_A
  | or_A_d8 (n : Byte)
  -- CP A,s: register, (HL) and immediate forms (R508)
  | cp_A_B
  | cp_A_C
  | cp_A_D
  | cp_A_E
  | cp_A_H
  | cp_A_L
  | cp_A_mHL
  | cp_A_A
  | cp_A_d8 (n : Byte)
  -- 8-bit increment and decrement (R509 to R512)
  | inc_B
  | dec_B
  | inc_C
  | dec_C
  | inc_D
  | dec_D
  | inc_E
  | dec_E
  | inc_H
  | dec_H
  | inc_L
  | dec_L
  | inc_mHL
  | dec_mHL
  | inc_A
  | dec_A
  -- decimal adjust, complement and carry flag (R513 to R516)
  | daa
  | cpl
  | scf
  | ccf
  -- 16-bit loads and the stack (R601 to R607)
  | ld_BC_d16 (w : Word)
  | ld_ma16_SP (w : Word)
  | ld_DE_d16 (w : Word)
  | ld_HL_d16 (w : Word)
  | ld_SP_d16 (w : Word)
  | pop_BC
  | push_BC
  | pop_DE
  | push_DE
  | pop_HL
  | push_HL
  | pop_AF
  | push_AF
  | ld_HL_SPe8 (e : Byte)
  | ld_SP_HL
  -- 16-bit arithmetic (R700 to R703)
  | inc_BC
  | add_HL_BC
  | dec_BC
  | inc_DE
  | add_HL_DE
  | dec_DE
  | inc_HL
  | add_HL_HL
  | dec_HL
  | inc_SP
  | add_HL_SP
  | dec_SP
  | add_SP_e8 (e : Byte)
  -- accumulator rotates (R800 to R803)
  | rlca
  | rrca
  | rla
  | rra
  -- jumps, calls, returns and restarts (R901 to R911)
  | jr_e8 (e : Byte)
  | jr_NZ_e8 (e : Byte)
  | jr_Z_e8 (e : Byte)
  | jr_NC_e8 (e : Byte)
  | jr_C_e8 (e : Byte)
  | ret_NZ
  | jp_NZ_a16 (w : Word)
  | jp_a16 (w : Word)
  | call_NZ_a16 (w : Word)
  | rst_00
  | ret_Z
  | ret
  | jp_Z_a16 (w : Word)
  | call_Z_a16 (w : Word)
  | call_a16 (w : Word)
  | rst_08
  | ret_NC
  | jp_NC_a16 (w : Word)
  | call_NC_a16 (w : Word)
  | rst_10
  | ret_C
  | reti
  | jp_C_a16 (w : Word)
  | call_C_a16 (w : Word)
  | rst_18
  | rst_20
  | jp_HL
  | rst_28
  | rst_30
  | rst_38
  -- system: NOP, HALT, STOP (with its ignored second byte), DI, EI (R1000 to R1004)
  | nop
  | stop (b : Byte)
  | halt
  | di
  | ei
  -- the prefix byte 0xCB taken by itself (R1005): a complete prefixed instruction is one of the rows below
  | prefix_CB
  -- the eleven opcodes with no dispatch entry (R315, R1006)
  | illegal_D3
  | illegal_DB
  | illegal_DD
  | illegal_E3
  | illegal_E4
  | illegal_EB
  | illegal_EC
  | illegal_ED
  | illegal_F4
  | illegal_FC
  | illegal_FD
  -- CB RLC s (R805)
  | rlc_B
  | rlc_C
  | rlc_D
  | rlc_E
  | rlc_H
  | rlc_L
  | rlc_mHL
  | rlc_A
  -- CB RRC s (R806)
  | rrc_B
  | rrc_C
  | rrc_D
  | rrc_E
  | rrc_H
  | rrc_L
  | rrc_mHL
  | rrc_A
  -- CB RL s (R807)
  | rl_B
  | rl_C
  | rl_D
  | rl_E
  | rl_H
  | rl_L
  | rl_mHL
  | rl_A
  -- CB RR s (R808)
  | rr_B
  | rr_C
  | rr_D
  | rr_E
  | rr_H
  | rr_L
  | rr_mHL
  | rr_A
  -- CB SLA s (R809)
  | sla_B
  | sla_C
  | sla_D
  | sla_E
  | sla_H
  | sla_L
  | sla_mHL
  | sla_A
  -- CB SRA s (R810)
  | sra_B
  | sra_C
  | sra_D
  | sra_E
  | sra_H
  | sra_L
  | sra_mHL
  | sra_A
  -- CB SWAP s (R811)
  | swap_B
  | swap_C
  | swap_D
  | swap_E
  | swap_H
  | swap_L
  | swap_mHL
  | swap_A
  -- CB SRL s (R812)
  | srl_B
  | srl_C
  | srl_D
  | srl_E
  | srl_H
  | srl_L
  | srl_mHL
  | srl_A
  -- CB BIT b,s (R813)
  | bit_0_B
  | bit_0_C
  | bit_0_D
  | bit_0_E
  | bit_0_H
  | bit_0_L
  | bit_0_mHL
  | bit_0_A
  | bit_1_B
  | bit_1_C
  | bit_1_D
  | bit_1_E
  | bit_1_H
  | bit_1_L
  | bit_1_mHL
  | bit_1_A
  | bit_2_B
  | bit_2_C
  | bit_2_D
  | bit_2_E
  | bit_2_H
  | bit_2_L
  | bit_2_mHL
  | bit_2_A
  | bit_3_B
  | bit_3_C
  | bit_3_D
  | bit_3_E
  | bit_3_H
  | bit_3_L
  | bit_3_mHL
  | bit_3_A
  | bit_4_B
  | bit_4_C
  | bit_4_D
  | bit_4_E
  | bit_4_H
  | bit_4_L
  | bit_4_mHL
  | bit_4_A
  | bit_5_B
  | bit_5_C
  | bit_5_D
  | bit_5_E
  | bit_5_H
  | bit_5_L
  | bit_5_mHL
  | bit_5_A
  | bit_6_B
  | bit_6_C
  | bit_6_D
  | bit_6_E
  | bit_6_H
  | bit_6_L
  | bit_6_mHL
  | bit_6_A
  | bit_7_B
  | bit_7_C
  | bit_7_D
  | bit_7_E
  | bit_7_H
  | bit_7_L
  | bit_7_mHL
  | bit_7_A
  -- CB RES b,s (R814)
  | res_0_B
  | res_0_C
  | res_0_D
  | res_0_E
  | res_0_H
  | res_0_L
  | res_0_mHL
  | res_0_A
  | res_1_B
  | res_1_C
  | res_1_D
  | res_1_E
  | res_1_H
  | res_1_L
  | res_1_mHL
  | res_1_A
  | res_2_B
  | res_2_C
  | res_2_D
  | res_2_E
  | res_2_H
  | res_2_L
  | res_2_mHL
  | res_2_A
  | res_3_B
  | res_3_C
  | res_3_D
  | res_3_E
  | res_3_H
  | res_3_L
  | res_3_mHL
  | res_3_A
  | res_4_B
  | res_4_C
  | res_4_D
  | res_4_E
  | res_4_H
  | res_4_L
  | res_4_mHL
  | res_4_A
  | res_5_B
  | res_5_C
  | res_5_D
  | res_5_E
  | res_5_H
  | res_5_L
  | res_5_mHL
  | res_5_A
  | res_6_B
  | res_6_C
  | res_6_D
  | res_6_E
  | res_6_H
  | res_6_L
  | res_6_mHL
  | res_6_A
  | res_7_B
  | res_7_C
  | res_7_D
  | res_7_E
  | res_7_H
  | res_7_L
  | res_7_mHL
  | res_7_A
  -- CB SET b,s (R815)
  | set_0_B
  | set_0_C
  | set_0_D
  | set_0_E
  | set_0_H
  | set_0_L
  | set_0_mHL
  | set_0_A
  | set_1_B
  | set_1_C
  | set_1_D
  | set_1_E
  | set_1_H
  | set_1_L
  | set_1_mHL
  | set_1_A
  | set_2_B
  | set_2_C
  | set_2_D
  | set_2_E
  | set_2_H
  | set_2_L
  | set_2_mHL
  | set_2_A
  | set_3_B
  | set_3_C
  | set_3_D
  | set_3_E
  | set_3_H
  | set_3_L
  | set_3_mHL
  | set_3_A
  | set_4_B
  | set_4_C
  | set_4_D
  | set_4_E
  | set_4_H
  | set_4_L
  | set_4_mHL
  | set_4_A
  | set_5_B
  | set_5_C
  | set_5_D
  | set_5_E
  | set_5_H
  | set_5_L
  | set_5_mHL
  | set_5_A
  | set_6_B
  | set_6_C
  | set_6_D
  | set_6_E
  | set_6_H
  | set_6_L
  | set_6_mHL
  | set_6_A
  | set_7_B
  | set_7_C
  | set_7_D
  | set_7_E
  | set_7_H
  | set_7_L
  | set_7_mHL
  | set_7_A
  deriving DecidableEq, Repr

end Sys2Proof
end

