-- ==== Sys2Proof/Decode.lean ====
section
/-!
DEFINITION. Decoding and encoding (30_encoding.md). The decoder reads the fields of the opcode (R301 to R308) and
builds the dispatch tables MAIN and CB from them (R304), the encoder writes each instruction's bytes from the opcode
maps (R309, R314). Decoding is total on bytes but for a list that ends inside an instruction, which it rejects by name.
-/

namespace Sys2Proof

/-- The operand of an 8-bit operand index (R305). -/
def r8OfIndex : Nat → R8
  | 0 => .b | 1 => .c | 2 => .d | 3 => .e | 4 => .h | 5 => .l | 6 => .mHL | _ => .a

/-- The pair field `pp` of LD rr,d16, ADD HL,rr, INC rr and DEC rr (R307). -/
def reg16OfIndex : Nat → Reg16
  | 0 => .bc | 1 => .de | 2 => .hl | _ => .sp

/-- The pair field `pp` of PUSH rr and POP rr (R307). -/
def stackRegOfIndex : Nat → Reg16
  | 0 => .bc | 1 => .de | 2 => .hl | _ => .af

/-- The condition field `cc` (R308). -/
def condOfIndex : Nat → Cond
  | 0 => .nz | 1 => .z | 2 => .nc | _ => .c

/-- The accumulator operation field `ooo` (R303). -/
def aluOfIndex : Nat → AluOp
  | 0 => .add | 1 => .adc | 2 => .sub | 3 => .sbc | 4 => .and | 5 => .xor | 6 => .or | _ => .cp

/-- The CB rotate field `ooo` (R301). -/
def rotOfIndex : Nat → RotOp
  | 0 => .rlc | 1 => .rrc | 2 => .rl | 3 => .rr | 4 => .sla | 5 => .sra | 6 => .swap | _ => .srl

/-- `01 ddd sss` (R302): LD dst,src; the slot with both operands (HL) is HALT (R304, R1001). -/
def ldBlock : R8 → R8 → Instr
  | .b, .b => .ld_B_B | .b, .c => .ld_B_C | .b, .d => .ld_B_D | .b, .e => .ld_B_E | .b, .h => .ld_B_H | .b, .l => .ld_B_L | .b, .mHL => .ld_B_mHL | .b, .a => .ld_B_A
  | .c, .b => .ld_C_B | .c, .c => .ld_C_C | .c, .d => .ld_C_D | .c, .e => .ld_C_E | .c, .h => .ld_C_H | .c, .l => .ld_C_L | .c, .mHL => .ld_C_mHL | .c, .a => .ld_C_A
  | .d, .b => .ld_D_B | .d, .c => .ld_D_C | .d, .d => .ld_D_D | .d, .e => .ld_D_E | .d, .h => .ld_D_H | .d, .l => .ld_D_L | .d, .mHL => .ld_D_mHL | .d, .a => .ld_D_A
  | .e, .b => .ld_E_B | .e, .c => .ld_E_C | .e, .d => .ld_E_D | .e, .e => .ld_E_E | .e, .h => .ld_E_H | .e, .l => .ld_E_L | .e, .mHL => .ld_E_mHL | .e, .a => .ld_E_A
  | .h, .b => .ld_H_B | .h, .c => .ld_H_C | .h, .d => .ld_H_D | .h, .e => .ld_H_E | .h, .h => .ld_H_H | .h, .l => .ld_H_L | .h, .mHL => .ld_H_mHL | .h, .a => .ld_H_A
  | .l, .b => .ld_L_B | .l, .c => .ld_L_C | .l, .d => .ld_L_D | .l, .e => .ld_L_E | .l, .h => .ld_L_H | .l, .l => .ld_L_L | .l, .mHL => .ld_L_mHL | .l, .a => .ld_L_A
  | .mHL, .b => .ld_mHL_B | .mHL, .c => .ld_mHL_C | .mHL, .d => .ld_mHL_D | .mHL, .e => .ld_mHL_E | .mHL, .h => .ld_mHL_H | .mHL, .l => .ld_mHL_L | .mHL, .mHL => .halt | .mHL, .a => .ld_mHL_A
  | .a, .b => .ld_A_B | .a, .c => .ld_A_C | .a, .d => .ld_A_D | .a, .e => .ld_A_E | .a, .h => .ld_A_H | .a, .l => .ld_A_L | .a, .mHL => .ld_A_mHL | .a, .a => .ld_A_A

/-- `10 ooo sss` (R303): the accumulator operation on an 8-bit operand. -/
def aluBlock : AluOp → R8 → Instr
  | .add, .b => .add_A_B | .add, .c => .add_A_C | .add, .d => .add_A_D | .add, .e => .add_A_E | .add, .h => .add_A_H | .add, .l => .add_A_L | .add, .mHL => .add_A_mHL | .add, .a => .add_A_A
  | .adc, .b => .adc_A_B | .adc, .c => .adc_A_C | .adc, .d => .adc_A_D | .adc, .e => .adc_A_E | .adc, .h => .adc_A_H | .adc, .l => .adc_A_L | .adc, .mHL => .adc_A_mHL | .adc, .a => .adc_A_A
  | .sub, .b => .sub_A_B | .sub, .c => .sub_A_C | .sub, .d => .sub_A_D | .sub, .e => .sub_A_E | .sub, .h => .sub_A_H | .sub, .l => .sub_A_L | .sub, .mHL => .sub_A_mHL | .sub, .a => .sub_A_A
  | .sbc, .b => .sbc_A_B | .sbc, .c => .sbc_A_C | .sbc, .d => .sbc_A_D | .sbc, .e => .sbc_A_E | .sbc, .h => .sbc_A_H | .sbc, .l => .sbc_A_L | .sbc, .mHL => .sbc_A_mHL | .sbc, .a => .sbc_A_A
  | .and, .b => .and_A_B | .and, .c => .and_A_C | .and, .d => .and_A_D | .and, .e => .and_A_E | .and, .h => .and_A_H | .and, .l => .and_A_L | .and, .mHL => .and_A_mHL | .and, .a => .and_A_A
  | .xor, .b => .xor_A_B | .xor, .c => .xor_A_C | .xor, .d => .xor_A_D | .xor, .e => .xor_A_E | .xor, .h => .xor_A_H | .xor, .l => .xor_A_L | .xor, .mHL => .xor_A_mHL | .xor, .a => .xor_A_A
  | .or, .b => .or_A_B | .or, .c => .or_A_C | .or, .d => .or_A_D | .or, .e => .or_A_E | .or, .h => .or_A_H | .or, .l => .or_A_L | .or, .mHL => .or_A_mHL | .or, .a => .or_A_A
  | .cp, .b => .cp_A_B | .cp, .c => .cp_A_C | .cp, .d => .cp_A_D | .cp, .e => .cp_A_E | .cp, .h => .cp_A_H | .cp, .l => .cp_A_L | .cp, .mHL => .cp_A_mHL | .cp, .a => .cp_A_A

/-- `11 ooo 110`, imm8 (R303): the accumulator operation on an immediate byte. -/
def aluImm : AluOp → Byte → Instr
  | .add, n => .add_A_d8 n | .adc, n => .adc_A_d8 n | .sub, n => .sub_A_d8 n | .sbc, n => .sbc_A_d8 n
  | .and, n => .and_A_d8 n | .xor, n => .xor_A_d8 n | .or, n => .or_A_d8 n | .cp, n => .cp_A_d8 n

/-- `00 rrr 100`: INC r and INC (HL) (R509, R510). -/
def inc8Of : R8 → Instr
  | .b => .inc_B | .c => .inc_C | .d => .inc_D | .e => .inc_E | .h => .inc_H | .l => .inc_L | .mHL => .inc_mHL | .a => .inc_A

/-- `00 rrr 101`: DEC r and DEC (HL) (R511, R512). -/
def dec8Of : R8 → Instr
  | .b => .dec_B | .c => .dec_C | .d => .dec_D | .e => .dec_E | .h => .dec_H | .l => .dec_L | .mHL => .dec_mHL | .a => .dec_A

/-- `00 rrr 110`, imm8: LD r,d8 and LD (HL),d8 (R404, R405). -/
def ldImm8 : R8 → Byte → Instr
  | .b, n => .ld_B_d8 n | .c, n => .ld_C_d8 n | .d, n => .ld_D_d8 n | .e, n => .ld_E_d8 n
  | .h, n => .ld_H_d8 n | .l, n => .ld_L_d8 n | .mHL, n => .ld_mHL_d8 n | .a, n => .ld_A_d8 n

/-- `00 pp 0001`, imm16: LD rr,d16 (R601). -/
def ld16Imm : Reg16 → Word → Instr
  | .bc, w => .ld_BC_d16 w | .de, w => .ld_DE_d16 w | .hl, w => .ld_HL_d16 w | _, w => .ld_SP_d16 w

/-- `00 pp 1001`: ADD HL,rr (R700). -/
def addHlOf : Reg16 → Instr
  | .bc => .add_HL_BC | .de => .add_HL_DE | .hl => .add_HL_HL | _ => .add_HL_SP

/-- `00 pp 0011`: INC rr (R701). -/
def inc16Of : Reg16 → Instr
  | .bc => .inc_BC | .de => .inc_DE | .hl => .inc_HL | _ => .inc_SP

/-- `00 pp 1011`: DEC rr (R702). -/
def dec16Of : Reg16 → Instr
  | .bc => .dec_BC | .de => .dec_DE | .hl => .dec_HL | _ => .dec_SP

/-- `11 pp 0001`: POP rr (R606, R607). -/
def popOf : Reg16 → Instr
  | .bc => .pop_BC | .de => .pop_DE | .hl => .pop_HL | _ => .pop_AF

/-- `11 pp 0101`: PUSH rr (R605). -/
def pushOf : Reg16 → Instr
  | .bc => .push_BC | .de => .push_DE | .hl => .push_HL | _ => .push_AF

/-- `001 cc 000`, imm8: JR cc,e8 (R905). -/
def jrCond : Cond → Byte → Instr
  | .nz, e => .jr_NZ_e8 e | .z, e => .jr_Z_e8 e | .nc, e => .jr_NC_e8 e | .c, e => .jr_C_e8 e

/-- `110 cc 000`: RET cc (R909). -/
def retCond : Cond → Instr
  | .nz => .ret_NZ | .z => .ret_Z | .nc => .ret_NC | .c => .ret_C

/-- `110 cc 010`, imm16: JP cc,a16 (R902). -/
def jpCond : Cond → Word → Instr
  | .nz, w => .jp_NZ_a16 w | .z, w => .jp_Z_a16 w | .nc, w => .jp_NC_a16 w | .c, w => .jp_C_a16 w

/-- `110 cc 100`, imm16: CALL cc,a16 (R907). -/
def callCond : Cond → Word → Instr
  | .nz, w => .call_NZ_a16 w | .z, w => .call_Z_a16 w | .nc, w => .call_NC_a16 w | .c, w => .call_C_a16 w

/-- `11 ttt 111`: RST ttt*8 (R911). -/
def rstOf : Nat → Instr
  | 0 => .rst_00 | 1 => .rst_08 | 2 => .rst_10 | 3 => .rst_18 | 4 => .rst_20 | 5 => .rst_28 | 6 => .rst_30 | _ => .rst_38

/-- CB `00 ooo rrr` (R301, R804): the rotates and shifts. -/
def rotBlock : RotOp → R8 → Instr
  | .rlc, .b => .rlc_B | .rlc, .c => .rlc_C | .rlc, .d => .rlc_D | .rlc, .e => .rlc_E | .rlc, .h => .rlc_H | .rlc, .l => .rlc_L | .rlc, .mHL => .rlc_mHL | .rlc, .a => .rlc_A
  | .rrc, .b => .rrc_B | .rrc, .c => .rrc_C | .rrc, .d => .rrc_D | .rrc, .e => .rrc_E | .rrc, .h => .rrc_H | .rrc, .l => .rrc_L | .rrc, .mHL => .rrc_mHL | .rrc, .a => .rrc_A
  | .rl, .b => .rl_B | .rl, .c => .rl_C | .rl, .d => .rl_D | .rl, .e => .rl_E | .rl, .h => .rl_H | .rl, .l => .rl_L | .rl, .mHL => .rl_mHL | .rl, .a => .rl_A
  | .rr, .b => .rr_B | .rr, .c => .rr_C | .rr, .d => .rr_D | .rr, .e => .rr_E | .rr, .h => .rr_H | .rr, .l => .rr_L | .rr, .mHL => .rr_mHL | .rr, .a => .rr_A
  | .sla, .b => .sla_B | .sla, .c => .sla_C | .sla, .d => .sla_D | .sla, .e => .sla_E | .sla, .h => .sla_H | .sla, .l => .sla_L | .sla, .mHL => .sla_mHL | .sla, .a => .sla_A
  | .sra, .b => .sra_B | .sra, .c => .sra_C | .sra, .d => .sra_D | .sra, .e => .sra_E | .sra, .h => .sra_H | .sra, .l => .sra_L | .sra, .mHL => .sra_mHL | .sra, .a => .sra_A
  | .swap, .b => .swap_B | .swap, .c => .swap_C | .swap, .d => .swap_D | .swap, .e => .swap_E | .swap, .h => .swap_H | .swap, .l => .swap_L | .swap, .mHL => .swap_mHL | .swap, .a => .swap_A
  | .srl, .b => .srl_B | .srl, .c => .srl_C | .srl, .d => .srl_D | .srl, .e => .srl_E | .srl, .h => .srl_H | .srl, .l => .srl_L | .srl, .mHL => .srl_mHL | .srl, .a => .srl_A

/-- CB `01 bbb rrr` (R813): BIT b,s, the bit number b in 0 to 7. -/
def bitBlock : Nat → R8 → Instr
  | 0, .b => .bit_0_B | 0, .c => .bit_0_C | 0, .d => .bit_0_D | 0, .e => .bit_0_E | 0, .h => .bit_0_H | 0, .l => .bit_0_L | 0, .mHL => .bit_0_mHL | 0, .a => .bit_0_A
  | 1, .b => .bit_1_B | 1, .c => .bit_1_C | 1, .d => .bit_1_D | 1, .e => .bit_1_E | 1, .h => .bit_1_H | 1, .l => .bit_1_L | 1, .mHL => .bit_1_mHL | 1, .a => .bit_1_A
  | 2, .b => .bit_2_B | 2, .c => .bit_2_C | 2, .d => .bit_2_D | 2, .e => .bit_2_E | 2, .h => .bit_2_H | 2, .l => .bit_2_L | 2, .mHL => .bit_2_mHL | 2, .a => .bit_2_A
  | 3, .b => .bit_3_B | 3, .c => .bit_3_C | 3, .d => .bit_3_D | 3, .e => .bit_3_E | 3, .h => .bit_3_H | 3, .l => .bit_3_L | 3, .mHL => .bit_3_mHL | 3, .a => .bit_3_A
  | 4, .b => .bit_4_B | 4, .c => .bit_4_C | 4, .d => .bit_4_D | 4, .e => .bit_4_E | 4, .h => .bit_4_H | 4, .l => .bit_4_L | 4, .mHL => .bit_4_mHL | 4, .a => .bit_4_A
  | 5, .b => .bit_5_B | 5, .c => .bit_5_C | 5, .d => .bit_5_D | 5, .e => .bit_5_E | 5, .h => .bit_5_H | 5, .l => .bit_5_L | 5, .mHL => .bit_5_mHL | 5, .a => .bit_5_A
  | 6, .b => .bit_6_B | 6, .c => .bit_6_C | 6, .d => .bit_6_D | 6, .e => .bit_6_E | 6, .h => .bit_6_H | 6, .l => .bit_6_L | 6, .mHL => .bit_6_mHL | 6, .a => .bit_6_A
  | _, .b => .bit_7_B | _, .c => .bit_7_C | _, .d => .bit_7_D | _, .e => .bit_7_E | _, .h => .bit_7_H | _, .l => .bit_7_L | _, .mHL => .bit_7_mHL | _, .a => .bit_7_A

/-- CB `10 bbb rrr` (R814): RES b,s, the bit number b in 0 to 7. -/
def resBlock : Nat → R8 → Instr
  | 0, .b => .res_0_B | 0, .c => .res_0_C | 0, .d => .res_0_D | 0, .e => .res_0_E | 0, .h => .res_0_H | 0, .l => .res_0_L | 0, .mHL => .res_0_mHL | 0, .a => .res_0_A
  | 1, .b => .res_1_B | 1, .c => .res_1_C | 1, .d => .res_1_D | 1, .e => .res_1_E | 1, .h => .res_1_H | 1, .l => .res_1_L | 1, .mHL => .res_1_mHL | 1, .a => .res_1_A
  | 2, .b => .res_2_B | 2, .c => .res_2_C | 2, .d => .res_2_D | 2, .e => .res_2_E | 2, .h => .res_2_H | 2, .l => .res_2_L | 2, .mHL => .res_2_mHL | 2, .a => .res_2_A
  | 3, .b => .res_3_B | 3, .c => .res_3_C | 3, .d => .res_3_D | 3, .e => .res_3_E | 3, .h => .res_3_H | 3, .l => .res_3_L | 3, .mHL => .res_3_mHL | 3, .a => .res_3_A
  | 4, .b => .res_4_B | 4, .c => .res_4_C | 4, .d => .res_4_D | 4, .e => .res_4_E | 4, .h => .res_4_H | 4, .l => .res_4_L | 4, .mHL => .res_4_mHL | 4, .a => .res_4_A
  | 5, .b => .res_5_B | 5, .c => .res_5_C | 5, .d => .res_5_D | 5, .e => .res_5_E | 5, .h => .res_5_H | 5, .l => .res_5_L | 5, .mHL => .res_5_mHL | 5, .a => .res_5_A
  | 6, .b => .res_6_B | 6, .c => .res_6_C | 6, .d => .res_6_D | 6, .e => .res_6_E | 6, .h => .res_6_H | 6, .l => .res_6_L | 6, .mHL => .res_6_mHL | 6, .a => .res_6_A
  | _, .b => .res_7_B | _, .c => .res_7_C | _, .d => .res_7_D | _, .e => .res_7_E | _, .h => .res_7_H | _, .l => .res_7_L | _, .mHL => .res_7_mHL | _, .a => .res_7_A

/-- CB `11 bbb rrr` (R815): SET b,s, the bit number b in 0 to 7. -/
def setBlock : Nat → R8 → Instr
  | 0, .b => .set_0_B | 0, .c => .set_0_C | 0, .d => .set_0_D | 0, .e => .set_0_E | 0, .h => .set_0_H | 0, .l => .set_0_L | 0, .mHL => .set_0_mHL | 0, .a => .set_0_A
  | 1, .b => .set_1_B | 1, .c => .set_1_C | 1, .d => .set_1_D | 1, .e => .set_1_E | 1, .h => .set_1_H | 1, .l => .set_1_L | 1, .mHL => .set_1_mHL | 1, .a => .set_1_A
  | 2, .b => .set_2_B | 2, .c => .set_2_C | 2, .d => .set_2_D | 2, .e => .set_2_E | 2, .h => .set_2_H | 2, .l => .set_2_L | 2, .mHL => .set_2_mHL | 2, .a => .set_2_A
  | 3, .b => .set_3_B | 3, .c => .set_3_C | 3, .d => .set_3_D | 3, .e => .set_3_E | 3, .h => .set_3_H | 3, .l => .set_3_L | 3, .mHL => .set_3_mHL | 3, .a => .set_3_A
  | 4, .b => .set_4_B | 4, .c => .set_4_C | 4, .d => .set_4_D | 4, .e => .set_4_E | 4, .h => .set_4_H | 4, .l => .set_4_L | 4, .mHL => .set_4_mHL | 4, .a => .set_4_A
  | 5, .b => .set_5_B | 5, .c => .set_5_C | 5, .d => .set_5_D | 5, .e => .set_5_E | 5, .h => .set_5_H | 5, .l => .set_5_L | 5, .mHL => .set_5_mHL | 5, .a => .set_5_A
  | 6, .b => .set_6_B | 6, .c => .set_6_C | 6, .d => .set_6_D | 6, .e => .set_6_E | 6, .h => .set_6_H | 6, .l => .set_6_L | 6, .mHL => .set_6_mHL | 6, .a => .set_6_A
  | _, .b => .set_7_B | _, .c => .set_7_C | _, .d => .set_7_D | _, .e => .set_7_E | _, .h => .set_7_H | _, .l => .set_7_L | _, .mHL => .set_7_mHL | _, .a => .set_7_A

/-- A dispatch entry of MAIN (R304): the instruction itself, or what it still needs, one immediate byte or a 16-bit
immediate (the formats U1, U2, U3 of R300). -/
inductive Form
  | u1 (i : Instr)
  | u2 (f : Byte → Instr)
  | u3 (f : Word → Instr)

/-- The column z = 2 of the block x = 0: the accumulator through BC, DE, HL+ and HL- (R406 to R413). -/
def indirectOfIndex : Nat → Instr
  | 0 => .ld_mBC_A | 1 => .ld_A_mBC | 2 => .ld_mDE_A | 3 => .ld_A_mDE
  | 4 => .ld_mHLi_A | 5 => .ld_A_mHLi | 6 => .ld_mHLd_A | _ => .ld_A_mHLd

/-- The column z = 7 of the block x = 0 (R800 to R803, R513 to R516). -/
def accOfIndex : Nat → Instr
  | 0 => .rlca | 1 => .rrca | 2 => .rla | 3 => .rra | 4 => .daa | 5 => .cpl | 6 => .scf | _ => .ccf

/-- MAIN for 0x00 to 0x3F: the rows 0x to 3x of R309, by column z. -/
def mainLow (op : Byte) : Form :=
  match fieldZ op with
  | 0 =>
    match fieldY op with
    | 0 => .u1 .nop
    | 1 => .u3 .ld_ma16_SP
    | 2 => .u2 .stop
    | 3 => .u2 .jr_e8
    | _ => .u2 (jrCond (condOfIndex (fieldCc op)))
  | 1 => if fieldQ op = 0 then .u3 (ld16Imm (reg16OfIndex (fieldP op))) else .u1 (addHlOf (reg16OfIndex (fieldP op)))
  | 2 => .u1 (indirectOfIndex (fieldY op))
  | 3 => .u1 (if fieldQ op = 0 then inc16Of (reg16OfIndex (fieldP op)) else dec16Of (reg16OfIndex (fieldP op)))
  | 4 => .u1 (inc8Of (r8OfIndex (fieldY op)))
  | 5 => .u1 (dec8Of (r8OfIndex (fieldY op)))
  | 6 => .u2 (ldImm8 (r8OfIndex (fieldY op)))
  | _ => .u1 (accOfIndex (fieldY op))

/-- MAIN for 0xC0 to 0xFF: the rows Cx to Fx of R309, by column z; the holes of R315 stand by name. -/
def mainHigh (op : Byte) : Form :=
  match fieldZ op with
  | 0 =>
    match fieldY op with
    | 4 => .u2 .ldh_ma8_A
    | 5 => .u2 .add_SP_e8
    | 6 => .u2 .ldh_A_ma8
    | 7 => .u2 .ld_HL_SPe8
    | _ => .u1 (retCond (condOfIndex (fieldCc op)))
  | 1 =>
    if fieldQ op = 0 then .u1 (popOf (stackRegOfIndex (fieldP op)))
    else match fieldP op with
      | 0 => .u1 .ret
      | 1 => .u1 .reti
      | 2 => .u1 .jp_HL
      | _ => .u1 .ld_SP_HL
  | 2 =>
    match fieldY op with
    | 4 => .u1 .ld_mC_A
    | 5 => .u3 .ld_ma16_A
    | 6 => .u1 .ld_A_mC
    | 7 => .u3 .ld_A_ma16
    | _ => .u3 (jpCond (condOfIndex (fieldCc op)))
  | 3 =>
    match fieldY op with
    | 0 => .u3 .jp_a16
    | 1 => .u1 .prefix_CB
    | 2 => .u1 .illegal_D3
    | 3 => .u1 .illegal_DB
    | 4 => .u1 .illegal_E3
    | 5 => .u1 .illegal_EB
    | 6 => .u1 .di
    | _ => .u1 .ei
  | 4 =>
    match fieldY op with
    | 4 => .u1 .illegal_E4
    | 5 => .u1 .illegal_EC
    | 6 => .u1 .illegal_F4
    | 7 => .u1 .illegal_FC
    | _ => .u3 (callCond (condOfIndex (fieldCc op)))
  | 5 =>
    if fieldQ op = 0 then .u1 (pushOf (stackRegOfIndex (fieldP op)))
    else match fieldP op with
      | 0 => .u3 .call_a16
      | 1 => .u1 .illegal_DD
      | 2 => .u1 .illegal_ED
      | _ => .u1 .illegal_FD
  | 6 => .u2 (aluImm (aluOfIndex (fieldY op)))
  | _ => .u1 (rstOf (fieldY op))

/-- The dispatch table MAIN (R304): the form of each unprefixed opcode; 0x76 is HALT (in `ldBlock`), 0xCB the prefix
entry. -/
def mainForm (op : Byte) : Form :=
  match fieldX op with
  | 0 => mainLow op
  | 1 => .u1 (ldBlock (r8OfIndex (fieldY op)) (r8OfIndex (fieldZ op)))
  | 2 => .u1 (aluBlock (aluOfIndex (fieldY op)) (r8OfIndex (fieldZ op)))
  | _ => mainHigh op

/-- The dispatch table CB (R304, R804): the instruction of each byte after 0xCB. -/
def cbInstr (code : Byte) : Instr :=
  match fieldX code with
  | 0 => rotBlock (rotOfIndex (fieldY code)) (r8OfIndex (fieldZ code))
  | 1 => bitBlock (fieldY code) (r8OfIndex (fieldZ code))
  | 2 => resBlock (fieldY code) (r8OfIndex (fieldZ code))
  | _ => setBlock (fieldY code) (r8OfIndex (fieldZ code))

/-- The length in bytes that the first byte alone gives (R317): 2 for 0xCB, else the MAIN row's. -/
def lengthOfFirst (op : Byte) : Nat :=
  if op = 0xCB then 2
  else match mainForm op with
    | .u1 _ => 1
    | .u2 _ => 2
    | .u3 _ => 3

/-- The instruction that begins with the three bytes given; a shorter one ignores the bytes after it (R311: 0xCB leads
to the table CB, any other byte to MAIN; R306: a 16-bit immediate is low byte first). -/
def decodeBytes (b0 b1 b2 : Byte) : Instr :=
  if b0 = 0xCB then cbInstr b1
  else match mainForm b0 with
    | .u1 i => i
    | .u2 f => f b1
    | .u3 f => f (cat b2 b1)

/-- Why a list of bytes is no instruction. Safe: nothing is executed. -/
inductive DecodeError
  /-- There is no byte to decode. -/
  | noByte
  /-- The list ends before the immediate bytes of the opcode `op`. -/
  | truncated (op : Byte)
  deriving DecidableEq, Repr

/-- Decode the instruction at the head of a byte list and give the bytes after it. The byte 0xCB at the very end of
the list is the row PREFIX CB itself (R1005; DESIGN CHOICE, log 11). -/
def decode : List Byte → Except DecodeError (Instr × List Byte)
  | [] => .error .noByte
  | op :: rest =>
    if op = 0xCB then
      match rest with
      | [] => .ok (.prefix_CB, [])
      | code :: rest => .ok (cbInstr code, rest)
    else match mainForm op, rest with
      | .u1 i, rest => .ok (i, rest)
      | .u2 f, n :: rest => .ok (f n, rest)
      | .u3 f, l :: h :: rest => .ok (f (cat h l), rest)
      | _, _ => .error (.truncated op)

/-- The bytes of an instruction, lowest address first, from the opcode maps (R300, R309, R314). -/
def encode : Instr → List Byte
  | .nop => [0x00]
  | .ld_BC_d16 w => [0x01, lo w, hi w]
  | .ld_mBC_A => [0x02]
  | .inc_BC => [0x03]
  | .inc_B => [0x04]
  | .dec_B => [0x05]
  | .ld_B_d8 n => [0x06, n]
  | .rlca => [0x07]
  | .ld_ma16_SP w => [0x08, lo w, hi w]
  | .add_HL_BC => [0x09]
  | .ld_A_mBC => [0x0A]
  | .dec_BC => [0x0B]
  | .inc_C => [0x0C]
  | .dec_C => [0x0D]
  | .ld_C_d8 n => [0x0E, n]
  | .rrca => [0x0F]
  | .stop b => [0x10, b]
  | .ld_DE_d16 w => [0x11, lo w, hi w]
  | .ld_mDE_A => [0x12]
  | .inc_DE => [0x13]
  | .inc_D => [0x14]
  | .dec_D => [0x15]
  | .ld_D_d8 n => [0x16, n]
  | .rla => [0x17]
  | .jr_e8 e => [0x18, e]
  | .add_HL_DE => [0x19]
  | .ld_A_mDE => [0x1A]
  | .dec_DE => [0x1B]
  | .inc_E => [0x1C]
  | .dec_E => [0x1D]
  | .ld_E_d8 n => [0x1E, n]
  | .rra => [0x1F]
  | .jr_NZ_e8 e => [0x20, e]
  | .ld_HL_d16 w => [0x21, lo w, hi w]
  | .ld_mHLi_A => [0x22]
  | .inc_HL => [0x23]
  | .inc_H => [0x24]
  | .dec_H => [0x25]
  | .ld_H_d8 n => [0x26, n]
  | .daa => [0x27]
  | .jr_Z_e8 e => [0x28, e]
  | .add_HL_HL => [0x29]
  | .ld_A_mHLi => [0x2A]
  | .dec_HL => [0x2B]
  | .inc_L => [0x2C]
  | .dec_L => [0x2D]
  | .ld_L_d8 n => [0x2E, n]
  | .cpl => [0x2F]
  | .jr_NC_e8 e => [0x30, e]
  | .ld_SP_d16 w => [0x31, lo w, hi w]
  | .ld_mHLd_A => [0x32]
  | .inc_SP => [0x33]
  | .inc_mHL => [0x34]
  | .dec_mHL => [0x35]
  | .ld_mHL_d8 n => [0x36, n]
  | .scf => [0x37]
  | .jr_C_e8 e => [0x38, e]
  | .add_HL_SP => [0x39]
  | .ld_A_mHLd => [0x3A]
  | .dec_SP => [0x3B]
  | .inc_A => [0x3C]
  | .dec_A => [0x3D]
  | .ld_A_d8 n => [0x3E, n]
  | .ccf => [0x3F]
  | .ld_B_B => [0x40]
  | .ld_B_C => [0x41]
  | .ld_B_D => [0x42]
  | .ld_B_E => [0x43]
  | .ld_B_H => [0x44]
  | .ld_B_L => [0x45]
  | .ld_B_mHL => [0x46]
  | .ld_B_A => [0x47]
  | .ld_C_B => [0x48]
  | .ld_C_C => [0x49]
  | .ld_C_D => [0x4A]
  | .ld_C_E => [0x4B]
  | .ld_C_H => [0x4C]
  | .ld_C_L => [0x4D]
  | .ld_C_mHL => [0x4E]
  | .ld_C_A => [0x4F]
  | .ld_D_B => [0x50]
  | .ld_D_C => [0x51]
  | .ld_D_D => [0x52]
  | .ld_D_E => [0x53]
  | .ld_D_H => [0x54]
  | .ld_D_L => [0x55]
  | .ld_D_mHL => [0x56]
  | .ld_D_A => [0x57]
  | .ld_E_B => [0x58]
  | .ld_E_C => [0x59]
  | .ld_E_D => [0x5A]
  | .ld_E_E => [0x5B]
  | .ld_E_H => [0x5C]
  | .ld_E_L => [0x5D]
  | .ld_E_mHL => [0x5E]
  | .ld_E_A => [0x5F]
  | .ld_H_B => [0x60]
  | .ld_H_C => [0x61]
  | .ld_H_D => [0x62]
  | .ld_H_E => [0x63]
  | .ld_H_H => [0x64]
  | .ld_H_L => [0x65]
  | .ld_H_mHL => [0x66]
  | .ld_H_A => [0x67]
  | .ld_L_B => [0x68]
  | .ld_L_C => [0x69]
  | .ld_L_D => [0x6A]
  | .ld_L_E => [0x6B]
  | .ld_L_H => [0x6C]
  | .ld_L_L => [0x6D]
  | .ld_L_mHL => [0x6E]
  | .ld_L_A => [0x6F]
  | .ld_mHL_B => [0x70]
  | .ld_mHL_C => [0x71]
  | .ld_mHL_D => [0x72]
  | .ld_mHL_E => [0x73]
  | .ld_mHL_H => [0x74]
  | .ld_mHL_L => [0x75]
  | .halt => [0x76]
  | .ld_mHL_A => [0x77]
  | .ld_A_B => [0x78]
  | .ld_A_C => [0x79]
  | .ld_A_D => [0x7A]
  | .ld_A_E => [0x7B]
  | .ld_A_H => [0x7C]
  | .ld_A_L => [0x7D]
  | .ld_A_mHL => [0x7E]
  | .ld_A_A => [0x7F]
  | .add_A_B => [0x80]
  | .add_A_C => [0x81]
  | .add_A_D => [0x82]
  | .add_A_E => [0x83]
  | .add_A_H => [0x84]
  | .add_A_L => [0x85]
  | .add_A_mHL => [0x86]
  | .add_A_A => [0x87]
  | .adc_A_B => [0x88]
  | .adc_A_C => [0x89]
  | .adc_A_D => [0x8A]
  | .adc_A_E => [0x8B]
  | .adc_A_H => [0x8C]
  | .adc_A_L => [0x8D]
  | .adc_A_mHL => [0x8E]
  | .adc_A_A => [0x8F]
  | .sub_A_B => [0x90]
  | .sub_A_C => [0x91]
  | .sub_A_D => [0x92]
  | .sub_A_E => [0x93]
  | .sub_A_H => [0x94]
  | .sub_A_L => [0x95]
  | .sub_A_mHL => [0x96]
  | .sub_A_A => [0x97]
  | .sbc_A_B => [0x98]
  | .sbc_A_C => [0x99]
  | .sbc_A_D => [0x9A]
  | .sbc_A_E => [0x9B]
  | .sbc_A_H => [0x9C]
  | .sbc_A_L => [0x9D]
  | .sbc_A_mHL => [0x9E]
  | .sbc_A_A => [0x9F]
  | .and_A_B => [0xA0]
  | .and_A_C => [0xA1]
  | .and_A_D => [0xA2]
  | .and_A_E => [0xA3]
  | .and_A_H => [0xA4]
  | .and_A_L => [0xA5]
  | .and_A_mHL => [0xA6]
  | .and_A_A => [0xA7]
  | .xor_A_B => [0xA8]
  | .xor_A_C => [0xA9]
  | .xor_A_D => [0xAA]
  | .xor_A_E => [0xAB]
  | .xor_A_H => [0xAC]
  | .xor_A_L => [0xAD]
  | .xor_A_mHL => [0xAE]
  | .xor_A_A => [0xAF]
  | .or_A_B => [0xB0]
  | .or_A_C => [0xB1]
  | .or_A_D => [0xB2]
  | .or_A_E => [0xB3]
  | .or_A_H => [0xB4]
  | .or_A_L => [0xB5]
  | .or_A_mHL => [0xB6]
  | .or_A_A => [0xB7]
  | .cp_A_B => [0xB8]
  | .cp_A_C => [0xB9]
  | .cp_A_D => [0xBA]
  | .cp_A_E => [0xBB]
  | .cp_A_H => [0xBC]
  | .cp_A_L => [0xBD]
  | .cp_A_mHL => [0xBE]
  | .cp_A_A => [0xBF]
  | .ret_NZ => [0xC0]
  | .pop_BC => [0xC1]
  | .jp_NZ_a16 w => [0xC2, lo w, hi w]
  | .jp_a16 w => [0xC3, lo w, hi w]
  | .call_NZ_a16 w => [0xC4, lo w, hi w]
  | .push_BC => [0xC5]
  | .add_A_d8 n => [0xC6, n]
  | .rst_00 => [0xC7]
  | .ret_Z => [0xC8]
  | .ret => [0xC9]
  | .jp_Z_a16 w => [0xCA, lo w, hi w]
  | .prefix_CB => [0xCB]
  | .call_Z_a16 w => [0xCC, lo w, hi w]
  | .call_a16 w => [0xCD, lo w, hi w]
  | .adc_A_d8 n => [0xCE, n]
  | .rst_08 => [0xCF]
  | .ret_NC => [0xD0]
  | .pop_DE => [0xD1]
  | .jp_NC_a16 w => [0xD2, lo w, hi w]
  | .illegal_D3 => [0xD3]
  | .call_NC_a16 w => [0xD4, lo w, hi w]
  | .push_DE => [0xD5]
  | .sub_A_d8 n => [0xD6, n]
  | .rst_10 => [0xD7]
  | .ret_C => [0xD8]
  | .reti => [0xD9]
  | .jp_C_a16 w => [0xDA, lo w, hi w]
  | .illegal_DB => [0xDB]
  | .call_C_a16 w => [0xDC, lo w, hi w]
  | .illegal_DD => [0xDD]
  | .sbc_A_d8 n => [0xDE, n]
  | .rst_18 => [0xDF]
  | .ldh_ma8_A n => [0xE0, n]
  | .pop_HL => [0xE1]
  | .ld_mC_A => [0xE2]
  | .illegal_E3 => [0xE3]
  | .illegal_E4 => [0xE4]
  | .push_HL => [0xE5]
  | .and_A_d8 n => [0xE6, n]
  | .rst_20 => [0xE7]
  | .add_SP_e8 e => [0xE8, e]
  | .jp_HL => [0xE9]
  | .ld_ma16_A w => [0xEA, lo w, hi w]
  | .illegal_EB => [0xEB]
  | .illegal_EC => [0xEC]
  | .illegal_ED => [0xED]
  | .xor_A_d8 n => [0xEE, n]
  | .rst_28 => [0xEF]
  | .ldh_A_ma8 n => [0xF0, n]
  | .pop_AF => [0xF1]
  | .ld_A_mC => [0xF2]
  | .di => [0xF3]
  | .illegal_F4 => [0xF4]
  | .push_AF => [0xF5]
  | .or_A_d8 n => [0xF6, n]
  | .rst_30 => [0xF7]
  | .ld_HL_SPe8 e => [0xF8, e]
  | .ld_SP_HL => [0xF9]
  | .ld_A_ma16 w => [0xFA, lo w, hi w]
  | .ei => [0xFB]
  | .illegal_FC => [0xFC]
  | .illegal_FD => [0xFD]
  | .cp_A_d8 n => [0xFE, n]
  | .rst_38 => [0xFF]
  | .rlc_B => [0xCB, 0x00]
  | .rlc_C => [0xCB, 0x01]
  | .rlc_D => [0xCB, 0x02]
  | .rlc_E => [0xCB, 0x03]
  | .rlc_H => [0xCB, 0x04]
  | .rlc_L => [0xCB, 0x05]
  | .rlc_mHL => [0xCB, 0x06]
  | .rlc_A => [0xCB, 0x07]
  | .rrc_B => [0xCB, 0x08]
  | .rrc_C => [0xCB, 0x09]
  | .rrc_D => [0xCB, 0x0A]
  | .rrc_E => [0xCB, 0x0B]
  | .rrc_H => [0xCB, 0x0C]
  | .rrc_L => [0xCB, 0x0D]
  | .rrc_mHL => [0xCB, 0x0E]
  | .rrc_A => [0xCB, 0x0F]
  | .rl_B => [0xCB, 0x10]
  | .rl_C => [0xCB, 0x11]
  | .rl_D => [0xCB, 0x12]
  | .rl_E => [0xCB, 0x13]
  | .rl_H => [0xCB, 0x14]
  | .rl_L => [0xCB, 0x15]
  | .rl_mHL => [0xCB, 0x16]
  | .rl_A => [0xCB, 0x17]
  | .rr_B => [0xCB, 0x18]
  | .rr_C => [0xCB, 0x19]
  | .rr_D => [0xCB, 0x1A]
  | .rr_E => [0xCB, 0x1B]
  | .rr_H => [0xCB, 0x1C]
  | .rr_L => [0xCB, 0x1D]
  | .rr_mHL => [0xCB, 0x1E]
  | .rr_A => [0xCB, 0x1F]
  | .sla_B => [0xCB, 0x20]
  | .sla_C => [0xCB, 0x21]
  | .sla_D => [0xCB, 0x22]
  | .sla_E => [0xCB, 0x23]
  | .sla_H => [0xCB, 0x24]
  | .sla_L => [0xCB, 0x25]
  | .sla_mHL => [0xCB, 0x26]
  | .sla_A => [0xCB, 0x27]
  | .sra_B => [0xCB, 0x28]
  | .sra_C => [0xCB, 0x29]
  | .sra_D => [0xCB, 0x2A]
  | .sra_E => [0xCB, 0x2B]
  | .sra_H => [0xCB, 0x2C]
  | .sra_L => [0xCB, 0x2D]
  | .sra_mHL => [0xCB, 0x2E]
  | .sra_A => [0xCB, 0x2F]
  | .swap_B => [0xCB, 0x30]
  | .swap_C => [0xCB, 0x31]
  | .swap_D => [0xCB, 0x32]
  | .swap_E => [0xCB, 0x33]
  | .swap_H => [0xCB, 0x34]
  | .swap_L => [0xCB, 0x35]
  | .swap_mHL => [0xCB, 0x36]
  | .swap_A => [0xCB, 0x37]
  | .srl_B => [0xCB, 0x38]
  | .srl_C => [0xCB, 0x39]
  | .srl_D => [0xCB, 0x3A]
  | .srl_E => [0xCB, 0x3B]
  | .srl_H => [0xCB, 0x3C]
  | .srl_L => [0xCB, 0x3D]
  | .srl_mHL => [0xCB, 0x3E]
  | .srl_A => [0xCB, 0x3F]
  | .bit_0_B => [0xCB, 0x40]
  | .bit_0_C => [0xCB, 0x41]
  | .bit_0_D => [0xCB, 0x42]
  | .bit_0_E => [0xCB, 0x43]
  | .bit_0_H => [0xCB, 0x44]
  | .bit_0_L => [0xCB, 0x45]
  | .bit_0_mHL => [0xCB, 0x46]
  | .bit_0_A => [0xCB, 0x47]
  | .bit_1_B => [0xCB, 0x48]
  | .bit_1_C => [0xCB, 0x49]
  | .bit_1_D => [0xCB, 0x4A]
  | .bit_1_E => [0xCB, 0x4B]
  | .bit_1_H => [0xCB, 0x4C]
  | .bit_1_L => [0xCB, 0x4D]
  | .bit_1_mHL => [0xCB, 0x4E]
  | .bit_1_A => [0xCB, 0x4F]
  | .bit_2_B => [0xCB, 0x50]
  | .bit_2_C => [0xCB, 0x51]
  | .bit_2_D => [0xCB, 0x52]
  | .bit_2_E => [0xCB, 0x53]
  | .bit_2_H => [0xCB, 0x54]
  | .bit_2_L => [0xCB, 0x55]
  | .bit_2_mHL => [0xCB, 0x56]
  | .bit_2_A => [0xCB, 0x57]
  | .bit_3_B => [0xCB, 0x58]
  | .bit_3_C => [0xCB, 0x59]
  | .bit_3_D => [0xCB, 0x5A]
  | .bit_3_E => [0xCB, 0x5B]
  | .bit_3_H => [0xCB, 0x5C]
  | .bit_3_L => [0xCB, 0x5D]
  | .bit_3_mHL => [0xCB, 0x5E]
  | .bit_3_A => [0xCB, 0x5F]
  | .bit_4_B => [0xCB, 0x60]
  | .bit_4_C => [0xCB, 0x61]
  | .bit_4_D => [0xCB, 0x62]
  | .bit_4_E => [0xCB, 0x63]
  | .bit_4_H => [0xCB, 0x64]
  | .bit_4_L => [0xCB, 0x65]
  | .bit_4_mHL => [0xCB, 0x66]
  | .bit_4_A => [0xCB, 0x67]
  | .bit_5_B => [0xCB, 0x68]
  | .bit_5_C => [0xCB, 0x69]
  | .bit_5_D => [0xCB, 0x6A]
  | .bit_5_E => [0xCB, 0x6B]
  | .bit_5_H => [0xCB, 0x6C]
  | .bit_5_L => [0xCB, 0x6D]
  | .bit_5_mHL => [0xCB, 0x6E]
  | .bit_5_A => [0xCB, 0x6F]
  | .bit_6_B => [0xCB, 0x70]
  | .bit_6_C => [0xCB, 0x71]
  | .bit_6_D => [0xCB, 0x72]
  | .bit_6_E => [0xCB, 0x73]
  | .bit_6_H => [0xCB, 0x74]
  | .bit_6_L => [0xCB, 0x75]
  | .bit_6_mHL => [0xCB, 0x76]
  | .bit_6_A => [0xCB, 0x77]
  | .bit_7_B => [0xCB, 0x78]
  | .bit_7_C => [0xCB, 0x79]
  | .bit_7_D => [0xCB, 0x7A]
  | .bit_7_E => [0xCB, 0x7B]
  | .bit_7_H => [0xCB, 0x7C]
  | .bit_7_L => [0xCB, 0x7D]
  | .bit_7_mHL => [0xCB, 0x7E]
  | .bit_7_A => [0xCB, 0x7F]
  | .res_0_B => [0xCB, 0x80]
  | .res_0_C => [0xCB, 0x81]
  | .res_0_D => [0xCB, 0x82]
  | .res_0_E => [0xCB, 0x83]
  | .res_0_H => [0xCB, 0x84]
  | .res_0_L => [0xCB, 0x85]
  | .res_0_mHL => [0xCB, 0x86]
  | .res_0_A => [0xCB, 0x87]
  | .res_1_B => [0xCB, 0x88]
  | .res_1_C => [0xCB, 0x89]
  | .res_1_D => [0xCB, 0x8A]
  | .res_1_E => [0xCB, 0x8B]
  | .res_1_H => [0xCB, 0x8C]
  | .res_1_L => [0xCB, 0x8D]
  | .res_1_mHL => [0xCB, 0x8E]
  | .res_1_A => [0xCB, 0x8F]
  | .res_2_B => [0xCB, 0x90]
  | .res_2_C => [0xCB, 0x91]
  | .res_2_D => [0xCB, 0x92]
  | .res_2_E => [0xCB, 0x93]
  | .res_2_H => [0xCB, 0x94]
  | .res_2_L => [0xCB, 0x95]
  | .res_2_mHL => [0xCB, 0x96]
  | .res_2_A => [0xCB, 0x97]
  | .res_3_B => [0xCB, 0x98]
  | .res_3_C => [0xCB, 0x99]
  | .res_3_D => [0xCB, 0x9A]
  | .res_3_E => [0xCB, 0x9B]
  | .res_3_H => [0xCB, 0x9C]
  | .res_3_L => [0xCB, 0x9D]
  | .res_3_mHL => [0xCB, 0x9E]
  | .res_3_A => [0xCB, 0x9F]
  | .res_4_B => [0xCB, 0xA0]
  | .res_4_C => [0xCB, 0xA1]
  | .res_4_D => [0xCB, 0xA2]
  | .res_4_E => [0xCB, 0xA3]
  | .res_4_H => [0xCB, 0xA4]
  | .res_4_L => [0xCB, 0xA5]
  | .res_4_mHL => [0xCB, 0xA6]
  | .res_4_A => [0xCB, 0xA7]
  | .res_5_B => [0xCB, 0xA8]
  | .res_5_C => [0xCB, 0xA9]
  | .res_5_D => [0xCB, 0xAA]
  | .res_5_E => [0xCB, 0xAB]
  | .res_5_H => [0xCB, 0xAC]
  | .res_5_L => [0xCB, 0xAD]
  | .res_5_mHL => [0xCB, 0xAE]
  | .res_5_A => [0xCB, 0xAF]
  | .res_6_B => [0xCB, 0xB0]
  | .res_6_C => [0xCB, 0xB1]
  | .res_6_D => [0xCB, 0xB2]
  | .res_6_E => [0xCB, 0xB3]
  | .res_6_H => [0xCB, 0xB4]
  | .res_6_L => [0xCB, 0xB5]
  | .res_6_mHL => [0xCB, 0xB6]
  | .res_6_A => [0xCB, 0xB7]
  | .res_7_B => [0xCB, 0xB8]
  | .res_7_C => [0xCB, 0xB9]
  | .res_7_D => [0xCB, 0xBA]
  | .res_7_E => [0xCB, 0xBB]
  | .res_7_H => [0xCB, 0xBC]
  | .res_7_L => [0xCB, 0xBD]
  | .res_7_mHL => [0xCB, 0xBE]
  | .res_7_A => [0xCB, 0xBF]
  | .set_0_B => [0xCB, 0xC0]
  | .set_0_C => [0xCB, 0xC1]
  | .set_0_D => [0xCB, 0xC2]
  | .set_0_E => [0xCB, 0xC3]
  | .set_0_H => [0xCB, 0xC4]
  | .set_0_L => [0xCB, 0xC5]
  | .set_0_mHL => [0xCB, 0xC6]
  | .set_0_A => [0xCB, 0xC7]
  | .set_1_B => [0xCB, 0xC8]
  | .set_1_C => [0xCB, 0xC9]
  | .set_1_D => [0xCB, 0xCA]
  | .set_1_E => [0xCB, 0xCB]
  | .set_1_H => [0xCB, 0xCC]
  | .set_1_L => [0xCB, 0xCD]
  | .set_1_mHL => [0xCB, 0xCE]
  | .set_1_A => [0xCB, 0xCF]
  | .set_2_B => [0xCB, 0xD0]
  | .set_2_C => [0xCB, 0xD1]
  | .set_2_D => [0xCB, 0xD2]
  | .set_2_E => [0xCB, 0xD3]
  | .set_2_H => [0xCB, 0xD4]
  | .set_2_L => [0xCB, 0xD5]
  | .set_2_mHL => [0xCB, 0xD6]
  | .set_2_A => [0xCB, 0xD7]
  | .set_3_B => [0xCB, 0xD8]
  | .set_3_C => [0xCB, 0xD9]
  | .set_3_D => [0xCB, 0xDA]
  | .set_3_E => [0xCB, 0xDB]
  | .set_3_H => [0xCB, 0xDC]
  | .set_3_L => [0xCB, 0xDD]
  | .set_3_mHL => [0xCB, 0xDE]
  | .set_3_A => [0xCB, 0xDF]
  | .set_4_B => [0xCB, 0xE0]
  | .set_4_C => [0xCB, 0xE1]
  | .set_4_D => [0xCB, 0xE2]
  | .set_4_E => [0xCB, 0xE3]
  | .set_4_H => [0xCB, 0xE4]
  | .set_4_L => [0xCB, 0xE5]
  | .set_4_mHL => [0xCB, 0xE6]
  | .set_4_A => [0xCB, 0xE7]
  | .set_5_B => [0xCB, 0xE8]
  | .set_5_C => [0xCB, 0xE9]
  | .set_5_D => [0xCB, 0xEA]
  | .set_5_E => [0xCB, 0xEB]
  | .set_5_H => [0xCB, 0xEC]
  | .set_5_L => [0xCB, 0xED]
  | .set_5_mHL => [0xCB, 0xEE]
  | .set_5_A => [0xCB, 0xEF]
  | .set_6_B => [0xCB, 0xF0]
  | .set_6_C => [0xCB, 0xF1]
  | .set_6_D => [0xCB, 0xF2]
  | .set_6_E => [0xCB, 0xF3]
  | .set_6_H => [0xCB, 0xF4]
  | .set_6_L => [0xCB, 0xF5]
  | .set_6_mHL => [0xCB, 0xF6]
  | .set_6_A => [0xCB, 0xF7]
  | .set_7_B => [0xCB, 0xF8]
  | .set_7_C => [0xCB, 0xF9]
  | .set_7_D => [0xCB, 0xFA]
  | .set_7_E => [0xCB, 0xFB]
  | .set_7_H => [0xCB, 0xFC]
  | .set_7_L => [0xCB, 0xFD]
  | .set_7_mHL => [0xCB, 0xFE]
  | .set_7_A => [0xCB, 0xFF]

/-- The bytes that spec/opcode_table.json's number `w` of `nbits` bits stands for, without any padding. The table
numbers a CB row's two bytes 0xCB00 | cbop (R317), so there the first byte is bits 15 to 8; every other number has its
first byte in bits 7 to 0 and the later bytes above it (log 10). -/
def tableBytes (nbits w : Nat) : List Byte :=
  if nbits = 16 ∧ w / 256 % 256 = 0xCB then [0xCB, BitVec.ofNat 8 w]
  else [BitVec.ofNat 8 w, BitVec.ofNat 8 (w / 256), BitVec.ofNat 8 (w / 65536)].take (nbits / 8)

/-- The instruction the decoder reads from a number of spec/opcode_table.json: first from the row's own bytes, and where
these end inside an instruction, from them with operand bytes of zeros up to the longest instruction. -/
def decodeTableWord (nbits w : Nat) : Option Instr :=
  match decode (tableBytes nbits w) with
  | .ok (i, _) => some i
  | .error _ =>
    match decode ((tableBytes nbits w ++ [0, 0, 0]).take 3) with
    | .ok (i, _) => some i
    | .error _ => none

end Sys2Proof
end

