-- ==== Sys2Proof/Config.lean ====
section
/-!
DEFINITION. The parameters of the core (00_scope.md R11, 10_state.md R133): what an implementation fixes before the
first step and nothing changes afterwards, the shape of a catalog document (70_reset_and_hazards.md R1202), and the family
of mappers of which nothing is known.
-/

namespace Sys2Proof

/-- A catalog cost in T-cycles: one value, or taken and not taken (R312, R1221). -/
inductive Cost
  | one (t : Nat)
  | pair (taken notTaken : Nat)
  deriving DecidableEq, Repr

/-- The loaded CATALOG (R312, R1203): the default one of spec/opcode_table.json, or a supplied one as the opcodes it
lists and their costs. In a supplied one an opcode that is not listed has no dispatch entry, and of two rows with one
opcode the first counts (log 5). -/
inductive Catalog
  | standard
  | supplied (main cb : List (Byte × Cost))
  deriving DecidableEq, Repr

/-- The mapper state (10_state.md R132), encoded as a natural number (log 4). -/
abbrev MState := Nat

/-- A function of the mapper state, an address and a byte, written down as data: numbers, the three arguments, arithmetic
and bit operations on natural numbers, and a choice between two terms (DESIGN CHOICE, log 4). -/
inductive MapperTerm
  | const (n : Nat)
  | state
  | addr
  | byte
  | add (x y : MapperTerm)
  | sub (x y : MapperTerm)
  | mul (x y : MapperTerm)
  | div (x y : MapperTerm)
  | mod (x y : MapperTerm)
  | and (x y : MapperTerm)
  | or (x y : MapperTerm)
  | xor (x y : MapperTerm)
  /-- `x = y` decides between `yes` and `no`. -/
  | ifEq (x y yes no : MapperTerm)
  /-- `x < y` decides between `yes` and `no`. -/
  | ifLt (x y yes no : MapperTerm)
  deriving DecidableEq, Repr

/-- The record of R11 and D3: the state after initialization and the two functions, over MState. -/
structure MapperRecord where
  mstate0 : MState
  mapperWrite : MapperTerm
  romBank : MapperTerm
  deriving DecidableEq, Repr

/-- MAPPER (R11, R204, R206; 92_eei_decisions.md D3): the spec's default, a record that is supplied, or one of a family of
mappers of which nothing is known (log 4). -/
inductive Mapper
  | noMapper
  | supplied (record : MapperRecord)
  | external (index : Nat)
  deriving DecidableEq, Repr

/-- `MAPPER.mstate0` of an external mapper: nothing constrains it (D3, log 4). -/
opaque Config.externalStart : Nat → MState

/-- `MAPPER.mapper_write` of an external mapper: nothing constrains it (D3, log 4). -/
opaque Config.externalWrite : Nat → MState → Word → Byte → MState

/-- `MAPPER.rom_bank` of an external mapper: nothing constrains it (D3, log 4). -/
opaque Config.externalBank : Nat → MState → Nat

/-- The parameters that a step reads (R11, R133). -/
structure Config where
  /-- GK_ADMITTED (R12). -/
  gkAdmitted : Bool
  /-- The 0x4000-byte banks that ROM_CAPACITY has beyond the first two (D4, log 25). -/
  extraBanks : Nat
  /-- MAPPER (D3). -/
  mapper : Mapper
  /-- CATALOG (D12, D13). -/
  catalog : Catalog
  /-- Which of two rules holds right after an EI that ran with IME = 1 (DESIGN CHOICE, log 27): with `true` no interrupt is
  dispatched before the instruction that follows the EI (46_system.md R1004), with `false` one that is pending by then is
  (30_encoding.md R311, 60_exceptions.md R1110). -/
  eiHoldsDispatch : Bool
  deriving DecidableEq, Repr

/-- ROM_CAPACITY in bytes: a multiple of 0x4000, at least 0x8000 (R11, D4; log 25). -/
def Config.romCapacity (cfg : Config) : Nat := 0x8000 + 0x4000 * cfg.extraBanks

/-- The defaults of R11, and R311 to the letter (log 27). -/
def Config.default : Config :=
  { gkAdmitted := true, extraBanks := 0, mapper := .noMapper, catalog := .standard, eiHoldsDispatch := false }

/-- The `cycles` of a catalog entry as the document gives it (R1202 c). -/
inductive CyclesField
  | number (t : Nat)
  | pair (taken notTaken : Nat)
  /-- Anything that is neither a natural number nor a pair of them. -/
  | other
  deriving DecidableEq, Repr

/-- A `flags` map: for each flag '0', '1', '-' (unchanged) or the flag's own letter (computed) (R1202 d). -/
structure FlagsMap where
  z : Char
  n : Char
  h : Char
  c : Char
  deriving DecidableEq, Repr

/-- One catalog entry (R1202). -/
structure CatalogEntry where
  mnemonic : String
  bytes : Nat
  cycles : CyclesField
  operands : List String
  immediate : Bool
  flags : Option FlagsMap
  comment : Option String
  deriving DecidableEq, Repr

/-- A catalog document: two maps from keys (as character lists) to entries (R1202; its text form is not modelled,
log 17). -/
structure CatalogDoc where
  unprefixed : List (List Char × CatalogEntry)
  cbprefixed : List (List Char × CatalogEntry)
  deriving DecidableEq, Repr

/-- What is handed over as the catalog (R1202 a). -/
inductive CatalogInput
  /-- No catalog. -/
  | missing
  /-- Something that is not a document of the shape R1202 gives. -/
  | illShaped
  /-- The default catalog, spec/opcode_table.json. -/
  | standard
  | document (doc : CatalogDoc)
  deriving DecidableEq, Repr

/-- Why no machine is built (R1202, R1145). Safe: there is no machine to run. -/
inductive LoadError
  /-- (a) The catalog is missing or not a document of that shape. -/
  | badDocument
  /-- (b) An entry's length is not the opcode's. -/
  | badLength (prefixed : Bool) (code : Byte)
  /-- (c) An entry's cost has no legal shape, or is a pair for an unconditional opcode. -/
  | badCycles (prefixed : Bool) (code : Byte)
  /-- (d) An entry's flags map disagrees with the opcode's rule. -/
  | badFlags (prefixed : Bool) (code : Byte)
  deriving DecidableEq, Repr

end Sys2Proof
end

