-- ==== Sys2Proof/Machine/State.lean ====
section
/-!
DEFINITION. The state of the core (10_state.md), the reasons a step can stop, and the state after reset (R140).
-/

namespace Sys2Proof.Machine

/-- MODE (R120). -/
inductive Mode
  | running
  | halted
  | stopped
  | faulted
  deriving DecidableEq, Repr

/-- The codes of a decode fault (60_exceptions.md R1101, R1102). -/
inductive FaultCode
  /-- UNIMPLEMENTED_INSTRUCTION. -/
  | unimplementedInstruction
  /-- NOT_ADMITTED. -/
  | notAdmitted
  deriving DecidableEq, Repr

/-- The fault record `{code, pc, opcode, prefixed}` (R125, R1101). -/
structure FaultRecord where
  code : FaultCode
  pc : Word
  opcode : Byte
  prefixed : Bool
  deriving DecidableEq, Repr

/-- Stored bytes by key, keys strictly rising, none equal to what an unlisted key reads as. -/
abbrev Memory := List Host.Cell

/-- The state of the core: every piece of state of 10_state.md, and the parameters it was built with. -/
structure State where
  /-- The accumulator (R100). -/
  a : Byte
  /-- The flag register: Z, N, Hf, Cf in bits 7 to 4, bits 3 to 0 always 0 (R101, R102). -/
  f : Byte
  b : Byte
  c : Byte
  d : Byte
  e : Byte
  h : Byte
  l : Byte
  /-- The program counter (R107). -/
  pc : Word
  /-- The stack pointer (R108). -/
  sp : Word
  /-- MODE (R120). -/
  mode : Mode
  /-- IME (R121). -/
  ime : Bool
  /-- EI_PENDING (R122). -/
  eiPending : Bool
  /-- HALT_BUG (R123). -/
  haltBug : Bool
  /-- CYCLES (R124). -/
  cycles : Nat
  /-- FAULT_INFO (R125). -/
  faultInfo : Option FaultRecord
  /-- IE, the byte at 0xFFFF (R126). -/
  ie : Byte
  /-- IF, the byte at 0xFF0F, that is IO[0x0F] (R127). -/
  ifr : Byte
  /-- ROM by image offset (R130). -/
  rom : Memory
  /-- VRAM, ERAM, WRAM, OAM, IO (but for IF) and HRAM by the bus address of the storage byte (R131). -/
  ram : Memory
  /-- MSTATE (R132). -/
  mstate : MState
  /-- The parameters of the machine, which no step changes (R133; log 3). -/
  cfg : Config
  deriving DecidableEq, Repr

/-- The reasons a step stops with a fault: there is none. Every address reads and writes, and the one synchronous
exception of the core, the decode fault, is a next state in MODE FAULTED (R1103, R1104; log 8). -/
inductive Fault
  deriving DecidableEq, Repr

/-- The reasons a step is refused. -/
inductive Refusal
  /-- Raised by an arm of `exec` for an instruction without a meaning yet; no arm raises it now. Safe. -/
  | notModelled (mnemonic : String)
  deriving DecidableEq, Repr

/-- What a meaning and a step answer. -/
abbrev Result := Host.Outcome State Fault Refusal

/-- The machine right after `initialize` with the default parameters and no ROM image (R140, R1204). The register
values are log 1, IE, IF and the RAM contents log 2, the absent image log 13. -/
def State.reset : State :=
  { a := 0, f := 0, b := 0, c := 0, d := 0, e := 0, h := 0, l := 0
    pc := 0x0100, sp := 0xFFFE
    mode := .running, ime := false, eiPending := false, haltBug := false
    cycles := 0, faultInfo := none
    ie := 0, ifr := 0, rom := [], ram := []
    mstate := 0, cfg := Config.default }

end Sys2Proof.Machine
end

