-- ==== Sys2Proof/Machine/Memory.lean ====
section
/-!
DEFINITION. Stored bytes: reading, writing and the canonical form of a list of cells.
-/

namespace Sys2Proof.Machine

/-- What a key that is not listed reads as. For ROM it is the 0x00 fill of R1201; for the RAM arrays it is the value
that State.reset takes for RAM_INIT (DESIGN CHOICE, log 2). -/
def Memory.unlisted : Byte := 0x00

/-- The byte stored at a key. -/
def Memory.read : Memory → Nat → Byte
  | [], _ => Memory.unlisted
  | (k, v) :: m, key => if k = key then v else Memory.read m key

/-- Store a byte at a key: the keys stay in rising order, and storing what an unlisted key reads as removes the entry. -/
def Memory.write : Memory → Nat → Byte → Memory
  | [], key, v => if v = Memory.unlisted then [] else [(key, v)]
  | (k, u) :: m, key, v =>
    if k < key then (k, u) :: Memory.write m key v
    else if k = key then (if v = Memory.unlisted then m else (key, v) :: m)
    else if v = Memory.unlisted then (k, u) :: m
    else (key, v) :: (k, u) :: m

/-- The canonical form: keys strictly rising, no entry equal to what an unlisted key reads as. -/
abbrev Memory.wf (m : Memory) : Prop :=
  m.Pairwise (fun x y => x.1 < y.1) ∧ ∀ x ∈ m, x.2 ≠ Memory.unlisted

/-- The canonical memory of a list of bytes laid out from key `start` on (the ROM image of R1201). -/
def Memory.ofBytes : Nat → List Byte → Memory
  | _, [] => []
  | start, v :: vs =>
    if v = Memory.unlisted then Memory.ofBytes (start + 1) vs else (start, v) :: Memory.ofBytes (start + 1) vs

end Sys2Proof.Machine
end

