-- ==== Sys2Proof/Machine/Ops.lean ====
section
/-!
DEFINITION. The operations every meaning is built from: the address bus (20_memory.md), fetching (30_encoding.md R310),
register views, the stack (42_load16_stack.md R600), pending interrupts, and the two exceptions of the core with the
return from one (60_exceptions.md).
-/

namespace Sys2Proof.Machine

/-! ### The address bus -/

/-- The regions of R201. -/
inductive Region
  | rom0 | romx | vram | eram | wram | echo | oam | unusable | io | hram | ie
  deriving DecidableEq, Repr

/-- The region an address belongs to (R201). -/
def region (addr : Word) : Region :=
  if addr.toNat ≤ 0x3FFF then .rom0
  else if addr.toNat ≤ 0x7FFF then .romx
  else if addr.toNat ≤ 0x9FFF then .vram
  else if addr.toNat ≤ 0xBFFF then .eram
  else if addr.toNat ≤ 0xDFFF then .wram
  else if addr.toNat ≤ 0xFDFF then .echo
  else if addr.toNat ≤ 0xFE9F then .oam
  else if addr.toNat ≤ 0xFEFF then .unusable
  else if addr.toNat ≤ 0xFF7F then .io
  else if addr.toNat ≤ 0xFFFE then .hram
  else .ie

/-- The key in `ram` of an address with storage there: ECHO shares the byte 0x2000 below it (R208). -/
def ramKey (addr : Word) : Nat :=
  if region addr = .echo then addr.toNat - 0x2000 else addr.toNat

/-- The address of the IF register (R127). -/
def ifAddr : Word := 0xFF0F

/-- The value of a mapper term for a mapper state, an address and a byte (D3, log 4). -/
def mapperTerm (m addr v : Nat) : MapperTerm → Nat
  | .const n => n
  | .state => m
  | .addr => addr
  | .byte => v
  | .add x y => mapperTerm m addr v x + mapperTerm m addr v y
  | .sub x y => mapperTerm m addr v x - mapperTerm m addr v y
  | .mul x y => mapperTerm m addr v x * mapperTerm m addr v y
  | .div x y => mapperTerm m addr v x / mapperTerm m addr v y
  | .mod x y => mapperTerm m addr v x % mapperTerm m addr v y
  | .and x y => mapperTerm m addr v x &&& mapperTerm m addr v y
  | .or x y => mapperTerm m addr v x ||| mapperTerm m addr v y
  | .xor x y => mapperTerm m addr v x ^^^ mapperTerm m addr v y
  | .ifEq x y yes no =>
    if mapperTerm m addr v x = mapperTerm m addr v y then mapperTerm m addr v yes else mapperTerm m addr v no
  | .ifLt x y yes no =>
    if mapperTerm m addr v x < mapperTerm m addr v y then mapperTerm m addr v yes else mapperTerm m addr v no

/-- `MAPPER.mstate0` (R140, D3). -/
def mapperStart : Mapper → MState
  | .noMapper => 0
  | .supplied r => r.mstate0
  | .external i => Config.externalStart i

/-- `MAPPER.rom_bank` (R204, D3), a function of MSTATE alone. -/
def mapperBank : Mapper → MState → Nat
  | .noMapper, _ => 1
  | .supplied r, m => mapperTerm m 0 0 r.romBank
  | .external i, m => Config.externalBank i m

/-- `MAPPER.mapper_write` (R206, D3). -/
def mapperWrite : Mapper → MState → Word → Byte → MState
  | .noMapper, m, _, _ => m
  | .supplied r, m, addr, v => mapperTerm m addr.toNat v.toNat r.mapperWrite
  | .external i, m, addr, v => Config.externalWrite i m addr v

/-- The image offset that the ROMX window shows at an address (R204). -/
def romxOffset (s : State) (addr : Word) : Nat :=
  (mapperBank s.cfg.mapper s.mstate * 0x4000 + (addr.toNat - 0x4000)) % s.cfg.romCapacity

/-- BusRead (R212); it changes nothing (R214). -/
def busRead (s : State) (addr : Word) : Byte :=
  match region addr with
  | .rom0 => s.rom.read addr.toNat
  | .romx => s.rom.read (romxOffset s addr)
  | .unusable => 0x00
  | .ie => s.ie
  | .io => if addr = ifAddr then s.ifr else s.ram.read (ramKey addr)
  | .vram | .eram | .wram | .echo | .oam | .hram => s.ram.read (ramKey addr)

/-- BusWrite (R213). -/
def busWrite (s : State) (addr : Word) (v : Byte) : State :=
  match region addr with
  | .rom0 => if addr.toNat ≤ 0x1FFF then s else { s with mstate := mapperWrite s.cfg.mapper s.mstate addr v }
  | .romx => s
  | .unusable => s
  | .ie => { s with ie := v }
  | .io => if addr = ifAddr then { s with ifr := v } else { s with ram := s.ram.write (ramKey addr) v }
  | .vram | .eram | .wram | .echo | .oam | .hram => { s with ram := s.ram.write (ramKey addr) v }

/-- `MemWrite(addr, 2, v16)`: the low byte at addr first, then the high byte at addr + 1 (R215, D17). -/
def memWrite16 (s : State) (addr v : Word) : State :=
  busWrite (busWrite s addr (lo v)) (addr + 1) (hi v)

/-! ### Fetching -/

/-- Where the byte after the opcode byte is read: FetchOpcode advances PC, unless HALT_BUG is set (R310). -/
def operandPc (s : State) : Word := if s.haltBug then s.pc else s.pc + 1

/-- The fetch of an instruction: the opcode byte, which clears HALT_BUG, and `n` bytes after it (R306, R310). Every
meaning begins with it, on the state before the opcode fetch (log 7). -/
def advance (n : Nat) (s : State) : State :=
  { s with pc := operandPc s + BitVec.ofNat 16 n, haltBug := false }

/-! ### Register views and operands -/

/-- A 16-bit register or pair view, high byte first (R104, R107, R108). -/
def get16 : Reg16 → State → Word
  | .bc, s => cat s.b s.c
  | .de, s => cat s.d s.e
  | .hl, s => cat s.h s.l
  | .sp, s => s.sp
  | .af, s => cat s.a s.f

/-- Write a 16-bit register or pair view; AF keeps F's low nibble 0 (R101, R104). -/
def set16 : Reg16 → Word → State → State
  | .bc, v, s => { s with b := hi v, c := lo v }
  | .de, v, s => { s with d := hi v, e := lo v }
  | .hl, v, s => { s with h := hi v, l := lo v }
  | .sp, v, s => { s with sp := v }
  | .af, v, s => { s with a := hi v, f := lo v &&& 0xF0 }

/-! ### The stack -/

/-- `Push16` (R600): the high byte at SP - 1 first, then the low byte at SP - 2. -/
def push16 (v : Word) (s : State) : State :=
  let s1 := busWrite { s with sp := s.sp - 1 } (s.sp - 1) (hi v)
  busWrite { s1 with sp := s1.sp - 1 } (s1.sp - 1) (lo v)

/-- The value `Pop16` returns (R600). -/
def popValue (s : State) : Word := cat (busRead s (s.sp + 1)) (busRead s s.sp)

/-- The state after `Pop16` (R600). -/
def popped (s : State) : State := { s with sp := s.sp + 2 }

/-! ### Interrupts and decode faults -/

/-- The numeric code of a decode fault (R1101, D8). -/
def faultNumber : FaultCode → Nat
  | .unimplementedInstruction => 1
  | .notAdmitted => 2

/-- `Pending() = IE & IF & 0x1F` (R1107). -/
def pending (s : State) : Byte := s.ie &&& s.ifr &&& 0x1F

/-- The step dispatches an interrupt: IME is 1 and one is pending (R311, R1110), and EI is not holding it back until the next
instruction has run (R1004; log 27). EI_PENDING is 1 at the start of a step only right after an EI. -/
abbrev Dispatches (s : State) : Prop :=
  s.ime = true ∧ pending s ≠ 0 ∧ ¬(s.cfg.eiHoldsDispatch = true ∧ s.eiPending = true)

/-- The lowest set bit among bits 0 to 4 (R1108). -/
def lowestSource (p : Byte) : Nat :=
  if p.getLsbD 0 then 0 else if p.getLsbD 1 then 1 else if p.getLsbD 2 then 2 else if p.getLsbD 3 then 3 else 4

/-- The vector of source k (R1109). -/
def vector (k : Nat) : Word := BitVec.ofNat 16 (0x0040 + 8 * k)

/-- The address an interrupt dispatch pushes: PC, or that of the HALT when HALT_BUG is set (R1110, D22). -/
def dispatchReturn (s : State) : Word := if s.haltBug then s.pc - 1 else s.pc

/-- The first half of `DispatchInterrupt` (R1110): IME, EI_PENDING and HALT_BUG cleared, the high byte of the return
address pushed. -/
def dispatchHighPush (s : State) : State :=
  busWrite { s with ime := false, eiPending := false, haltBug := false, sp := s.sp - 1 } (s.sp - 1)
    (hi (dispatchReturn s))

/-- `DispatchInterrupt` but for its cost of 20 (R1110): Pending() is read again between the two pushes, and when nothing
is pending any more PC becomes 0x0000 and no IF bit is cleared (D25). -/
def dispatchInterrupt (s : State) : State :=
  let s1 := dispatchHighPush s
  let p := pending s1
  let s2 := busWrite { s1 with sp := s1.sp - 1 } (s1.sp - 1) (lo (dispatchReturn s))
  if p = 0 then { s2 with pc := 0x0000 }
  else { s2 with ifr := s2.ifr &&& ~~~(1#8 <<< lowestSource p), pc := vector (lowestSource p) }

/-- `DecodeFault` on the state before the opcode fetch (R313, R1103): MODE and FAULT_INFO only. -/
def decodeFault (code : FaultCode) (opcode : Byte) (prefixed : Bool) (s : State) : State :=
  { s with mode := .faulted, faultInfo := some ⟨code, s.pc, opcode, prefixed⟩ }

/-- The return from an interrupt (R910, R1114): pop PC, set IME at once, cancel a pending EI. -/
def returnFromInterrupt (s : State) : State :=
  { popped s with pc := popValue s, ime := true, eiPending := false }

/-- Add to CYCLES (R124). -/
def charge (t : Nat) (s : State) : State := { s with cycles := s.cycles + t }

end Sys2Proof.Machine
end

