-- ==== Sys2Proof/Machine/Operands.lean ====
section
/-!
DEFINITION. The operand forms: the 8-bit operand index (R305), the pointer adjustments of (HL+) and (HL-), the accumulator
through memory, and the condition field.
-/

namespace Sys2Proof.Machine

/-- `Get8(i)` (R305); index 6 reads memory at HL. -/
def get8 : R8 → State → Byte
  | .b, s => s.b
  | .c, s => s.c
  | .d, s => s.d
  | .e, s => s.e
  | .h, s => s.h
  | .l, s => s.l
  | .mHL, s => busRead s (get16 .hl s)
  | .a, s => s.a

/-- `Set8(i, v)` (R305); index 6 writes memory at HL. -/
def set8 : R8 → Byte → State → State
  | .b, v, s => { s with b := v }
  | .c, v, s => { s with c := v }
  | .d, v, s => { s with d := v }
  | .e, v, s => { s with e := v }
  | .h, v, s => { s with h := v }
  | .l, v, s => { s with l := v }
  | .mHL, v, s => busWrite s (get16 .hl s) v
  | .a, v, s => { s with a := v }

/-- Copy one 8-bit operand to another (R401 to R403). -/
def move8 (dst src : R8) (s : State) : State := set8 dst (get8 src s) s

/-- Load A from an address. -/
def loadA (addr : Word) (s : State) : State := { s with a := busRead s addr }

/-- Store A at an address. -/
def storeA (addr : Word) (s : State) : State := busWrite s addr s.a

/-- Add to HL after an access: 1 for (HL+), -1 for (HL-), without flags (R410 to R413). -/
def adjustHl (delta : Word) (s : State) : State := set16 .hl (get16 .hl s + delta) s

/-- The flag bits of F (R101). -/
def flagZ (s : State) : Bool := s.f.getLsbD 7
def flagN (s : State) : Bool := s.f.getLsbD 6
def flagH (s : State) : Bool := s.f.getLsbD 5
def flagC (s : State) : Bool := s.f.getLsbD 4

/-- `Cond(cc)` (R308, R900). -/
def condHolds : Cond → State → Bool
  | .nz, s => !flagZ s
  | .z, s => flagZ s
  | .nc, s => !flagC s
  | .c, s => flagC s

end Sys2Proof.Machine
end

