-- ==== Sys2Proof/Machine/Flags.lean ====
section
/-!
DEFINITION. Results and flags: exact integer arithmetic narrowed at the end (R14, R517), and the writing of F (R15, R101).
-/

namespace Sys2Proof.Machine

/-- The byte of four flags with the low nibble 0 (R15). -/
def flagByte (z n h c : Bool) : Byte :=
  (if z then 0x80 else 0) ||| (if n then 0x40 else 0) ||| (if h then 0x20 else 0) ||| (if c then 0x10 else 0)

/-- `flags(z, n, h, c)` (R15); a flag that is kept is passed as its own bit. -/
def setFlags (z n h c : Bool) (s : State) : State := { s with f := flagByte z n h c }

/-- A byte result with the four flags it sets. -/
structure Out8 where
  value : Byte
  z : Bool
  n : Bool
  h : Bool
  c : Bool
  deriving DecidableEq, Repr

/-- The addition of R501 and R502; `cin` is 0 for ADD. -/
def addOut (a v : Byte) (cin : Bool) : Out8 :=
  let result := a.toNat + v.toNat + cin.toNat
  { value := BitVec.ofNat 8 result
    z := result % 256 = 0
    n := false
    h := a.toNat % 16 + v.toNat % 16 + cin.toNat > 0xF
    c := result > 0xFF }

/-- The subtraction of R503, R504 and R508; `cin` is 0 for SUB and CP. -/
def subOut (a v : Byte) (cin : Bool) : Out8 :=
  let result : Int := a.toNat - v.toNat - cin.toNat
  { value := BitVec.ofInt 8 result
    z := result % 256 = 0
    n := true
    h := a.toNat % 16 < v.toNat % 16 + cin.toNat
    c := a.toNat < v.toNat + cin.toNat }

/-- The logical operations of R505 to R507: Z from the result, N and Cf clear, Hf as given. -/
def logicOut (result : Byte) (h : Bool) : Out8 :=
  { value := result, z := result = 0, n := false, h := h, c := false }

/-- The accumulator operations (R501 to R508); CP leaves A as it was. -/
def aluOut : AluOp → Byte → Byte → Bool → Out8
  | .add, a, v, _ => addOut a v false
  | .adc, a, v, cin => addOut a v cin
  | .sub, a, v, _ => subOut a v false
  | .sbc, a, v, cin => subOut a v cin
  | .and, a, v, _ => logicOut (a &&& v) true
  | .xor, a, v, _ => logicOut (a ^^^ v) false
  | .or, a, v, _ => logicOut (a ||| v) false
  | .cp, a, v, _ => { subOut a v false with value := a }

/-- An accumulator operation on a value `v` (R500): A and all four flags. -/
def aluA (op : AluOp) (v : Byte) (s : State) : State :=
  let r := aluOut op s.a v (flagC s)
  setFlags r.z r.n r.h r.c { s with a := r.value }

/-- An accumulator operation on an 8-bit operand (R500, register form). -/
def aluReg (op : AluOp) (r : R8) (s : State) : State := aluA op (get8 r s) s

/-- INC on an 8-bit operand (R509, R510); Cf is kept. -/
def inc8 (r : R8) (s : State) : State :=
  let old := get8 r s
  let new := old + 1
  setFlags (new = 0) false (old.toNat % 16 + 1 > 0xF) (flagC s) (set8 r new s)

/-- DEC on an 8-bit operand (R511, R512); Cf is kept. -/
def dec8 (r : R8) (s : State) : State :=
  let old := get8 r s
  let new := old - 1
  setFlags (new = 0) true (old.toNat % 16 = 0) (flagC s) (set8 r new s)

/-- The two tests of DAA and the value they add (N = 0) or subtract (N = 1), with the new Cf (R513). -/
def daaOut (a : Byte) (n h c : Bool) : Int × Bool :=
  if n then
    ((a.toNat : Int) - (if c then 0x60 else 0) - (if h then 0x06 else 0), c)
  else
    let high := c || decide (a.toNat > 0x99)
    let low := h || decide (a.toNat % 16 > 0x09)
    ((a.toNat : Int) + (if high then 0x60 else 0) + (if low then 0x06 else 0), high)

/-- DAA (R513). -/
def daaA (s : State) : State :=
  let r := daaOut s.a (flagN s) (flagH s) (flagC s)
  setFlags (r.1 % 256 = 0) (flagN s) false r.2 { s with a := BitVec.ofInt 8 r.1 }

/-- The 16-bit addition to HL (R700): Z is kept. -/
def addHl (rr : Reg16) (s : State) : State :=
  let hl := get16 .hl s
  let v := get16 rr s
  let result := hl.toNat + v.toNat
  setFlags (flagZ s) false (hl.toNat % 0x1000 + v.toNat % 0x1000 > 0x0FFF) (result > 0xFFFF)
    (set16 .hl (BitVec.ofNat 16 result) s)

/-- `SPAddE(e)` (R704): the sum, Hf and Cf. -/
def spAddE (e : Byte) (s : State) : Word × Bool × Bool :=
  (s.sp + sext8 e, s.sp.toNat % 16 + e.toNat % 16 > 0x0F, s.sp.toNat % 256 + e.toNat > 0xFF)

/-- The value and the bit shifted out of each rotate and shift (R800 to R812); `cin` is Cf. -/
def rotOut : RotOp → Byte → Bool → Byte × Bool
  | .rlc, v, _ => ((v <<< 1) ||| (v >>> 7), v.getLsbD 7)
  | .rrc, v, _ => ((v >>> 1) ||| (v <<< 7), v.getLsbD 0)
  | .rl, v, cin => ((v <<< 1) ||| (if cin then 1 else 0), v.getLsbD 7)
  | .rr, v, cin => ((v >>> 1) ||| (if cin then 0x80 else 0), v.getLsbD 0)
  | .sla, v, _ => (v <<< 1, v.getLsbD 7)
  | .sra, v, _ => ((v >>> 1) ||| (v &&& 0x80), v.getLsbD 0)
  | .swap, v, _ => ((v <<< 4) ||| (v >>> 4), false)
  | .srl, v, _ => (v >>> 1, v.getLsbD 0)

/-- A rotate of A by its unprefixed opcode: Z, N and Hf are 0 (R800 to R803). -/
def rotateA (op : RotOp) (s : State) : State :=
  let r := rotOut op s.a (flagC s)
  setFlags false false false r.2 { s with a := r.1 }

/-- A CB rotate or shift of an 8-bit operand: Z from the result (R804 to R812). -/
def cbRotate (op : RotOp) (r : R8) (s : State) : State :=
  let out := rotOut op (get8 r s) (flagC s)
  setFlags (out.1 = 0) false false out.2 (set8 r out.1 s)

/-- BIT b,s (R813): nothing is written but F. -/
def cbBit (b : Nat) (r : R8) (s : State) : State :=
  setFlags (!(get8 r s).getLsbD b) false true (flagC s) s

/-- RES b,s (R814). -/
def cbRes (b : Nat) (r : R8) (s : State) : State := set8 r (get8 r s &&& (0xFF ^^^ (1#8 <<< b))) s

/-- SET b,s (R815). -/
def cbSet (b : Nat) (r : R8) (s : State) : State := set8 r (get8 r s ||| (1#8 <<< b)) s

end Sys2Proof.Machine
end

