-- ==== Sys2Proof/Machine/Catalog.lean ====
section
/-!
DEFINITION. The instruction catalog: the default costs (field `cycles` of spec/opcode_table.json), which opcodes are marked
gk, the dispatch entry of an opcode (70_reset_and_hazards.md R1203), and the load and check of a catalog document (R1202).
-/

namespace Sys2Proof.Machine

/-- The eleven opcodes without a dispatch entry (R315). -/
def holes : List Byte := [0xD3, 0xDB, 0xDD, 0xE3, 0xE4, 0xEB, 0xEC, 0xED, 0xF4, 0xFC, 0xFD]

/-- The default costs of the opcode rows 0x, 1x, 2x, 3x (opcode_table.json, `cycles`); a hole has none and shows 0. -/
def costsLow : List (List Cost) :=
  [[.one 4, .one 12, .one 8, .one 8, .one 4, .one 4, .one 8, .one 4, .one 20, .one 8, .one 8, .one 8, .one 4, .one 4, .one 8, .one 4],
   [.one 4, .one 12, .one 8, .one 8, .one 4, .one 4, .one 8, .one 4, .one 12, .one 8, .one 8, .one 8, .one 4, .one 4, .one 8, .one 4],
   [.pair 12 8, .one 12, .one 8, .one 8, .one 4, .one 4, .one 8, .one 4, .pair 12 8, .one 8, .one 8, .one 8, .one 4, .one 4, .one 8, .one 4],
   [.pair 12 8, .one 12, .one 8, .one 8, .one 12, .one 12, .one 12, .one 4, .pair 12 8, .one 8, .one 8, .one 8, .one 4, .one 4, .one 8, .one 4]]

/-- The default costs of the opcode rows Cx, Dx, Ex, Fx (opcode_table.json, `cycles`); a hole has none and shows 0. -/
def costsHigh : List (List Cost) :=
  [[.pair 20 8, .one 12, .pair 16 12, .one 16, .pair 24 12, .one 16, .one 8, .one 16, .pair 20 8, .one 16, .pair 16 12, .one 4, .pair 24 12, .one 24, .one 8, .one 16],
   [.pair 20 8, .one 12, .pair 16 12, .one 0, .pair 24 12, .one 16, .one 8, .one 16, .pair 20 8, .one 16, .pair 16 12, .one 0, .pair 24 12, .one 0, .one 8, .one 16],
   [.one 12, .one 12, .one 8, .one 0, .one 0, .one 16, .one 8, .one 16, .one 16, .one 4, .one 16, .one 0, .one 0, .one 0, .one 8, .one 16],
   [.one 12, .one 12, .one 8, .one 4, .one 0, .one 16, .one 8, .one 16, .one 12, .one 8, .one 16, .one 4, .one 0, .one 0, .one 8, .one 16]]

/-- The default cost of an unprefixed opcode. The rows 4x to Bx cost 8 with a memory operand and 4 without one; HALT
costs 4. -/
def standardMainCost (op : Byte) : Cost :=
  match fieldX op with
  | 0 => ((costsLow.getD (op.toNat / 16) []).getD (op.toNat % 16) (.one 0))
  | 1 => if op ≠ 0x76 ∧ (fieldY op = 6 ∨ fieldZ op = 6) then .one 8 else .one 4
  | 2 => if fieldZ op = 6 then .one 8 else .one 4
  | _ => ((costsHigh.getD (op.toNat / 16 - 12) []).getD (op.toNat % 16) (.one 0))

/-- The default cost of a CB opcode (R804): 8, with (HL) 16, and 12 for BIT b,(HL). -/
def standardCbCost (code : Byte) : Cost :=
  if fieldZ code ≠ 6 then .one 8 else if fieldX code = 1 then .one 12 else .one 16

/-- The `gk` mark of a row (00_scope.md R8, R12; 60_exceptions.md R1102): everything but the loads and HALT of 0x40 to 0x7F,
the accumulator operations of 0x80 to 0xBF, INC r, DEC r, LD r,d8 with their (HL) forms, and the prefix byte. LD (HL),d8
(0x36) is not marked, as its row and R12 say, although list B of 93_implementation_defined.md names it among the refused
instructions (DESIGN CHOICE, log 30). -/
def gkMarked (prefixed : Bool) (code : Byte) : Bool :=
  prefixed ||
    !(fieldX code = 1 || fieldX code = 2 || (fieldX code = 0 && (fieldZ code = 4 || fieldZ code = 5 || fieldZ code = 6)) ||
      code = 0xCB)

/-- A dispatch entry as the step needs it (R304): the gk mark and the cost. -/
structure Entry where
  gk : Bool
  cost : Cost
  deriving DecidableEq, Repr

/-- The first row of a supplied catalog for an opcode. -/
def lookupCost : List (Byte × Cost) → Byte → Option Cost
  | [], _ => none
  | (k, t) :: rest, code => if k = code then some t else lookupCost rest code

/-- The cost a catalog gives an opcode, if it lists it. -/
def catalogCost (cat : Catalog) (prefixed : Bool) (code : Byte) : Option Cost :=
  match cat with
  | .standard => some (if prefixed then standardCbCost code else standardMainCost code)
  | .supplied main cb => lookupCost (if prefixed then cb else main) code

/-- The dispatch entry of an opcode, or NONE: a hole of R315, or an opcode that the catalog does not list (R1203). -/
def dispatchEntry (cfg : Config) (prefixed : Bool) (code : Byte) : Option Entry :=
  if prefixed = false ∧ code ∈ holes then none
  else (catalogCost cfg.catalog prefixed code).map fun t => ⟨gkMarked prefixed code, t⟩

/-- The condition of a conditional transfer's opcode: `001 cc 000`, `110 cc 000`, `110 cc 010`, `110 cc 100` (R302, R1221). -/
def conditionOf (prefixed : Bool) (code : Byte) : Option Cond :=
  if prefixed then none
  else if code &&& 0xE7 = 0x20 ∨ code &&& 0xE7 = 0xC0 ∨ code &&& 0xE7 = 0xC2 ∨ code &&& 0xE7 = 0xC4 then
    some (condOfIndex (fieldCc code))
  else none

/-- Whether a conditional transfer is taken; no such instruction changes a flag, so the flags before it decide (R1221,
log 12). -/
def taken (prefixed : Bool) (code : Byte) (s : State) : Bool :=
  match conditionOf prefixed code with
  | some cc => condHolds cc s
  | none => false

/-- The T-cycles of a cost for an outcome (R312). -/
def costFor : Cost → Bool → Nat
  | .one t, _ => t
  | .pair t n, tk => if tk then t else n

/-! ### The load of a catalog document -/

/-- The length this spec gives an opcode's entry: 2 in the CB map, else that of the MAIN row, 1 for the prefix entry
(R317, R1202 b; DEDUCED, log 26). -/
def entryLength (prefixed : Bool) (code : Byte) : Nat :=
  if prefixed then 2 else if code = 0xCB then 1 else lengthOfFirst code

/-- The Flags line of an opcode's rule in the letters of a catalog (R110, R1202 d). For the prefix byte it is unchanged for
all four (DESIGN CHOICE, log 28). -/
def flagsLine (prefixed : Bool) (code : Byte) : FlagsMap :=
  if prefixed then
    match fieldX code with
    | 0 => if fieldY code = 6 then ⟨'Z', '0', '0', '0'⟩ else ⟨'Z', '0', '0', 'C'⟩
    | 1 => ⟨'Z', '0', '1', '-'⟩
    | _ => ⟨'-', '-', '-', '-'⟩
  else if fieldX code = 2 ∨ (fieldX code = 3 ∧ fieldZ code = 6) then
    match fieldY code with
    | 0 | 1 => ⟨'Z', '0', 'H', 'C'⟩
    | 2 | 3 | 7 => ⟨'Z', '1', 'H', 'C'⟩
    | 4 => ⟨'Z', '0', '1', '0'⟩
    | _ => ⟨'Z', '0', '0', '0'⟩
  else if fieldX code = 0 then
    match fieldZ code with
    | 1 => if fieldQ code = 1 then ⟨'-', '0', 'H', 'C'⟩ else ⟨'-', '-', '-', '-'⟩
    | 4 => ⟨'Z', '0', 'H', '-'⟩
    | 5 => ⟨'Z', '1', 'H', '-'⟩
    | 7 =>
      match fieldY code with
      | 4 => ⟨'Z', '-', '0', 'C'⟩
      | 5 => ⟨'-', '1', '1', '-'⟩
      | 6 => ⟨'-', '0', '0', '1'⟩
      | 7 => ⟨'-', '0', '0', 'C'⟩
      | _ => ⟨'0', '0', '0', 'C'⟩
    | _ => ⟨'-', '-', '-', '-'⟩
  else if code = 0xE8 ∨ code = 0xF8 then ⟨'0', '0', 'H', 'C'⟩
  else if code = 0xF1 then ⟨'Z', 'N', 'H', 'C'⟩
  else ⟨'-', '-', '-', '-'⟩

/-- The value of a hexadecimal digit, of either case. -/
def hexDigit (ch : Char) : Option Nat :=
  let k := ch.toNat
  if 48 ≤ k ∧ k ≤ 57 then some (k - 48)
  else if 65 ≤ k ∧ k ≤ 70 then some (k - 55)
  else if 97 ≤ k ∧ k ≤ 102 then some (k - 87)
  else none

/-- The opcode of a two-hex-digit key (R1202); any other key is malformed. -/
def keyByte : List Char → Option Byte
  | [p, q] =>
    match hexDigit p, hexDigit q with
    | some u, some v => some (BitVec.ofNat 8 (16 * u + v))
    | _, _ => none
  | _ => none

/-- The cost of an entry, if it has a legal shape for its opcode (R1202 c). -/
def entryCost (prefixed : Bool) (code : Byte) : CyclesField → Option Cost
  | .number t => some (.one t)
  | .pair t n => if (conditionOf prefixed code).isSome then some (.pair t n) else none
  | .other => none

/-- Check one entry and give its row of the dispatch table (R1202 b, c, d). Of several faults the length is reported before
the cost, and the cost before the flags (DESIGN CHOICE, log 29). -/
def loadEntry (prefixed : Bool) (code : Byte) (e : CatalogEntry) : Except LoadError (Byte × Cost) :=
  if e.bytes ≠ entryLength prefixed code then .error (.badLength prefixed code)
  else match entryCost prefixed code e.cycles with
    | none => .error (.badCycles prefixed code)
    | some t =>
      match e.flags with
      | none => .ok (code, t)
      | some m => if m = flagsLine prefixed code then .ok (code, t) else .error (.badFlags prefixed code)

/-- Load one map of a document: a malformed key is skipped (R1202 e; the second list names the skipped keys, the
warnings), an entry for a hole is ignored (R1202 f). Of several bad entries the last one is reported (DESIGN CHOICE,
log 29). -/
def loadMap (prefixed : Bool) :
    List (List Char × CatalogEntry) → Except LoadError (List (Byte × Cost) × List (List Char))
  | [] => .ok ([], [])
  | (key, e) :: rest =>
    match loadMap prefixed rest with
    | .error err => .error err
    | .ok (rows, warnings) =>
      match keyByte key with
      | none => .ok (rows, key :: warnings)
      | some code =>
        if prefixed = false ∧ code ∈ holes then .ok (rows, warnings)
        else match loadEntry prefixed code e with
          | .error err => .error err
          | .ok row => .ok (row :: rows, warnings)

/-- The catalog that `initialize` works with, and its warnings, or the load error (R1200 step 1, R1202): that of
the unprefixed map where both maps have one (DESIGN CHOICE, log 29). -/
def loadCatalog : CatalogInput → Except LoadError (Catalog × List (List Char))
  | .missing => .error .badDocument
  | .illShaped => .error .badDocument
  | .standard => .ok (.standard, [])
  | .document doc =>
    match loadMap false doc.unprefixed with
    | .error err => .error err
    | .ok (main, w1) =>
      match loadMap true doc.cbprefixed with
      | .error err => .error err
      | .ok (cb, w2) => .ok (.supplied main cb, w1 ++ w2)

end Sys2Proof.Machine
end

