-- ==== Sys2Proof/Machine/Load16Stack.lean ====
section
/-!
DEFINITION. 16-bit loads and the stack (42_load16_stack.md).
-/

namespace Sys2Proof.Machine

/-- Write SP + e8 to a register with the flags of `SPAddE` (R604, R703, R704). -/
def spPlus (dst : Reg16) (e : Byte) (s : State) : State :=
  let r := spAddE e s
  setFlags false false r.2.1 r.2.2 (set16 dst r.1 s)

/-- `rr <- Pop16()`; for AF the low nibble of F stays 0 (R606, R607). -/
def pop16To (rr : Reg16) (s : State) : State := set16 rr (popValue s) (popped s)

/-- LD BC,d16 (R601). -/
def execLd_BC_d16 (w : Word) (s : State) : Result := .next (set16 .bc w (advance 2 s))

/-- LD (a16),SP (R602). -/
def execLd_ma16_SP (w : Word) (s : State) : Result := .next (memWrite16 (advance 2 s) w s.sp)

/-- LD DE,d16 (R601). -/
def execLd_DE_d16 (w : Word) (s : State) : Result := .next (set16 .de w (advance 2 s))

/-- LD HL,d16 (R601). -/
def execLd_HL_d16 (w : Word) (s : State) : Result := .next (set16 .hl w (advance 2 s))

/-- LD SP,d16 (R601). -/
def execLd_SP_d16 (w : Word) (s : State) : Result := .next (set16 .sp w (advance 2 s))

/-- POP BC (R606). -/
def execPop_BC (s : State) : Result := .next (pop16To .bc (advance 0 s))

/-- PUSH BC (R605). -/
def execPush_BC (s : State) : Result := .next (push16 (get16 .bc s) (advance 0 s))

/-- POP DE (R606). -/
def execPop_DE (s : State) : Result := .next (pop16To .de (advance 0 s))

/-- PUSH DE (R605). -/
def execPush_DE (s : State) : Result := .next (push16 (get16 .de s) (advance 0 s))

/-- POP HL (R606). -/
def execPop_HL (s : State) : Result := .next (pop16To .hl (advance 0 s))

/-- PUSH HL (R605). -/
def execPush_HL (s : State) : Result := .next (push16 (get16 .hl s) (advance 0 s))

/-- POP AF (R607). -/
def execPop_AF (s : State) : Result := .next (pop16To .af (advance 0 s))

/-- PUSH AF (R605). -/
def execPush_AF (s : State) : Result := .next (push16 (get16 .af s) (advance 0 s))

/-- LD HL,SP+e8 (R604). -/
def execLd_HL_SPe8 (e : Byte) (s : State) : Result := .next (spPlus .hl e (advance 1 s))

/-- LD SP,HL (R603). -/
def execLd_SP_HL (s : State) : Result := .next (set16 .sp (get16 .hl s) (advance 0 s))

end Sys2Proof.Machine
end

