-- ==== Sys2Proof/Machine/Alu16.lean ====
section
/-!
DEFINITION. 16-bit arithmetic (43_alu16.md).
-/

namespace Sys2Proof.Machine

/-- INC BC (R701). -/
def execInc_BC (s : State) : Result := .next (set16 .bc (get16 .bc s + 1) (advance 0 s))

/-- ADD HL,BC (R700). -/
def execAdd_HL_BC (s : State) : Result := .next (addHl .bc (advance 0 s))

/-- DEC BC (R702). -/
def execDec_BC (s : State) : Result := .next (set16 .bc (get16 .bc s - 1) (advance 0 s))

/-- INC DE (R701). -/
def execInc_DE (s : State) : Result := .next (set16 .de (get16 .de s + 1) (advance 0 s))

/-- ADD HL,DE (R700). -/
def execAdd_HL_DE (s : State) : Result := .next (addHl .de (advance 0 s))

/-- DEC DE (R702). -/
def execDec_DE (s : State) : Result := .next (set16 .de (get16 .de s - 1) (advance 0 s))

/-- INC HL (R701). -/
def execInc_HL (s : State) : Result := .next (set16 .hl (get16 .hl s + 1) (advance 0 s))

/-- ADD HL,HL (R700). -/
def execAdd_HL_HL (s : State) : Result := .next (addHl .hl (advance 0 s))

/-- DEC HL (R702). -/
def execDec_HL (s : State) : Result := .next (set16 .hl (get16 .hl s - 1) (advance 0 s))

/-- INC SP (R701). -/
def execInc_SP (s : State) : Result := .next (set16 .sp (get16 .sp s + 1) (advance 0 s))

/-- ADD HL,SP (R700). -/
def execAdd_HL_SP (s : State) : Result := .next (addHl .sp (advance 0 s))

/-- DEC SP (R702). -/
def execDec_SP (s : State) : Result := .next (set16 .sp (get16 .sp s - 1) (advance 0 s))

/-- ADD SP,e8 (R703). -/
def execAdd_SP_e8 (e : Byte) (s : State) : Result := .next (spPlus .sp e (advance 1 s))

end Sys2Proof.Machine
end

