-- ==== Sys2Proof/Machine/Alu8.lean ====
section
/-!
DEFINITION. 8-bit arithmetic and logic (41_alu8.md).
-/

namespace Sys2Proof.Machine

/-- CPL: A complemented, N and Hf set, Z and Cf kept (R514). -/
def complementA (s : State) : State := setFlags (flagZ s) true true (flagC s) { s with a := ~~~s.a }

/-- SCF (R515). -/
def setCarry (s : State) : State := setFlags (flagZ s) false false true s

/-- CCF (R516). -/
def flipCarry (s : State) : State := setFlags (flagZ s) false false (!flagC s) s

/-- INC B (R509). -/
def execInc_B (s : State) : Result := .next (inc8 .b (advance 0 s))

/-- DEC B (R511). -/
def execDec_B (s : State) : Result := .next (dec8 .b (advance 0 s))

/-- INC C (R509). -/
def execInc_C (s : State) : Result := .next (inc8 .c (advance 0 s))

/-- DEC C (R511). -/
def execDec_C (s : State) : Result := .next (dec8 .c (advance 0 s))

/-- INC D (R509). -/
def execInc_D (s : State) : Result := .next (inc8 .d (advance 0 s))

/-- DEC D (R511). -/
def execDec_D (s : State) : Result := .next (dec8 .d (advance 0 s))

/-- INC E (R509). -/
def execInc_E (s : State) : Result := .next (inc8 .e (advance 0 s))

/-- DEC E (R511). -/
def execDec_E (s : State) : Result := .next (dec8 .e (advance 0 s))

/-- INC H (R509). -/
def execInc_H (s : State) : Result := .next (inc8 .h (advance 0 s))

/-- DEC H (R511). -/
def execDec_H (s : State) : Result := .next (dec8 .h (advance 0 s))

/-- DAA (R513). -/
def execDaa (s : State) : Result := .next (daaA (advance 0 s))

/-- INC L (R509). -/
def execInc_L (s : State) : Result := .next (inc8 .l (advance 0 s))

/-- DEC L (R511). -/
def execDec_L (s : State) : Result := .next (dec8 .l (advance 0 s))

/-- CPL (R514). -/
def execCpl (s : State) : Result := .next (complementA (advance 0 s))

/-- INC (HL) (R510). -/
def execInc_mHL (s : State) : Result := .next (inc8 .mHL (advance 0 s))

/-- DEC (HL) (R512). -/
def execDec_mHL (s : State) : Result := .next (dec8 .mHL (advance 0 s))

/-- SCF (R515). -/
def execScf (s : State) : Result := .next (setCarry (advance 0 s))

/-- INC A (R509). -/
def execInc_A (s : State) : Result := .next (inc8 .a (advance 0 s))

/-- DEC A (R511). -/
def execDec_A (s : State) : Result := .next (dec8 .a (advance 0 s))

/-- CCF (R516). -/
def execCcf (s : State) : Result := .next (flipCarry (advance 0 s))

/-- ADD A,B (R501). -/
def execAdd_A_B (s : State) : Result := .next (aluReg .add .b (advance 0 s))

/-- ADD A,C (R501). -/
def execAdd_A_C (s : State) : Result := .next (aluReg .add .c (advance 0 s))

/-- ADD A,D (R501). -/
def execAdd_A_D (s : State) : Result := .next (aluReg .add .d (advance 0 s))

/-- ADD A,E (R501). -/
def execAdd_A_E (s : State) : Result := .next (aluReg .add .e (advance 0 s))

/-- ADD A,H (R501). -/
def execAdd_A_H (s : State) : Result := .next (aluReg .add .h (advance 0 s))

/-- ADD A,L (R501). -/
def execAdd_A_L (s : State) : Result := .next (aluReg .add .l (advance 0 s))

/-- ADD A,(HL) (R501). -/
def execAdd_A_mHL (s : State) : Result := .next (aluReg .add .mHL (advance 0 s))

/-- ADD A,A (R501). -/
def execAdd_A_A (s : State) : Result := .next (aluReg .add .a (advance 0 s))

/-- ADC A,B (R502). -/
def execAdc_A_B (s : State) : Result := .next (aluReg .adc .b (advance 0 s))

/-- ADC A,C (R502). -/
def execAdc_A_C (s : State) : Result := .next (aluReg .adc .c (advance 0 s))

/-- ADC A,D (R502). -/
def execAdc_A_D (s : State) : Result := .next (aluReg .adc .d (advance 0 s))

/-- ADC A,E (R502). -/
def execAdc_A_E (s : State) : Result := .next (aluReg .adc .e (advance 0 s))

/-- ADC A,H (R502). -/
def execAdc_A_H (s : State) : Result := .next (aluReg .adc .h (advance 0 s))

/-- ADC A,L (R502). -/
def execAdc_A_L (s : State) : Result := .next (aluReg .adc .l (advance 0 s))

/-- ADC A,(HL) (R502). -/
def execAdc_A_mHL (s : State) : Result := .next (aluReg .adc .mHL (advance 0 s))

/-- ADC A,A (R502). -/
def execAdc_A_A (s : State) : Result := .next (aluReg .adc .a (advance 0 s))

/-- SUB A,B (R503). -/
def execSub_A_B (s : State) : Result := .next (aluReg .sub .b (advance 0 s))

/-- SUB A,C (R503). -/
def execSub_A_C (s : State) : Result := .next (aluReg .sub .c (advance 0 s))

/-- SUB A,D (R503). -/
def execSub_A_D (s : State) : Result := .next (aluReg .sub .d (advance 0 s))

/-- SUB A,E (R503). -/
def execSub_A_E (s : State) : Result := .next (aluReg .sub .e (advance 0 s))

/-- SUB A,H (R503). -/
def execSub_A_H (s : State) : Result := .next (aluReg .sub .h (advance 0 s))

/-- SUB A,L (R503). -/
def execSub_A_L (s : State) : Result := .next (aluReg .sub .l (advance 0 s))

/-- SUB A,(HL) (R503). -/
def execSub_A_mHL (s : State) : Result := .next (aluReg .sub .mHL (advance 0 s))

/-- SUB A,A (R503). -/
def execSub_A_A (s : State) : Result := .next (aluReg .sub .a (advance 0 s))

/-- SBC A,B (R504). -/
def execSbc_A_B (s : State) : Result := .next (aluReg .sbc .b (advance 0 s))

/-- SBC A,C (R504). -/
def execSbc_A_C (s : State) : Result := .next (aluReg .sbc .c (advance 0 s))

/-- SBC A,D (R504). -/
def execSbc_A_D (s : State) : Result := .next (aluReg .sbc .d (advance 0 s))

/-- SBC A,E (R504). -/
def execSbc_A_E (s : State) : Result := .next (aluReg .sbc .e (advance 0 s))

/-- SBC A,H (R504). -/
def execSbc_A_H (s : State) : Result := .next (aluReg .sbc .h (advance 0 s))

/-- SBC A,L (R504). -/
def execSbc_A_L (s : State) : Result := .next (aluReg .sbc .l (advance 0 s))

/-- SBC A,(HL) (R504). -/
def execSbc_A_mHL (s : State) : Result := .next (aluReg .sbc .mHL (advance 0 s))

/-- SBC A,A (R504). -/
def execSbc_A_A (s : State) : Result := .next (aluReg .sbc .a (advance 0 s))

/-- AND A,B (R505). -/
def execAnd_A_B (s : State) : Result := .next (aluReg .and .b (advance 0 s))

/-- AND A,C (R505). -/
def execAnd_A_C (s : State) : Result := .next (aluReg .and .c (advance 0 s))

/-- AND A,D (R505). -/
def execAnd_A_D (s : State) : Result := .next (aluReg .and .d (advance 0 s))

/-- AND A,E (R505). -/
def execAnd_A_E (s : State) : Result := .next (aluReg .and .e (advance 0 s))

/-- AND A,H (R505). -/
def execAnd_A_H (s : State) : Result := .next (aluReg .and .h (advance 0 s))

/-- AND A,L (R505). -/
def execAnd_A_L (s : State) : Result := .next (aluReg .and .l (advance 0 s))

/-- AND A,(HL) (R505). -/
def execAnd_A_mHL (s : State) : Result := .next (aluReg .and .mHL (advance 0 s))

/-- AND A,A (R505). -/
def execAnd_A_A (s : State) : Result := .next (aluReg .and .a (advance 0 s))

/-- XOR A,B (R506). -/
def execXor_A_B (s : State) : Result := .next (aluReg .xor .b (advance 0 s))

/-- XOR A,C (R506). -/
def execXor_A_C (s : State) : Result := .next (aluReg .xor .c (advance 0 s))

/-- XOR A,D (R506). -/
def execXor_A_D (s : State) : Result := .next (aluReg .xor .d (advance 0 s))

/-- XOR A,E (R506). -/
def execXor_A_E (s : State) : Result := .next (aluReg .xor .e (advance 0 s))

/-- XOR A,H (R506). -/
def execXor_A_H (s : State) : Result := .next (aluReg .xor .h (advance 0 s))

/-- XOR A,L (R506). -/
def execXor_A_L (s : State) : Result := .next (aluReg .xor .l (advance 0 s))

/-- XOR A,(HL) (R506). -/
def execXor_A_mHL (s : State) : Result := .next (aluReg .xor .mHL (advance 0 s))

/-- XOR A,A (R506). -/
def execXor_A_A (s : State) : Result := .next (aluReg .xor .a (advance 0 s))

/-- OR A,B (R507). -/
def execOr_A_B (s : State) : Result := .next (aluReg .or .b (advance 0 s))

/-- OR A,C (R507). -/
def execOr_A_C (s : State) : Result := .next (aluReg .or .c (advance 0 s))

/-- OR A,D (R507). -/
def execOr_A_D (s : State) : Result := .next (aluReg .or .d (advance 0 s))

/-- OR A,E (R507). -/
def execOr_A_E (s : State) : Result := .next (aluReg .or .e (advance 0 s))

/-- OR A,H (R507). -/
def execOr_A_H (s : State) : Result := .next (aluReg .or .h (advance 0 s))

/-- OR A,L (R507). -/
def execOr_A_L (s : State) : Result := .next (aluReg .or .l (advance 0 s))

/-- OR A,(HL) (R507). -/
def execOr_A_mHL (s : State) : Result := .next (aluReg .or .mHL (advance 0 s))

/-- OR A,A (R507). -/
def execOr_A_A (s : State) : Result := .next (aluReg .or .a (advance 0 s))

/-- CP A,B (R508). -/
def execCp_A_B (s : State) : Result := .next (aluReg .cp .b (advance 0 s))

/-- CP A,C (R508). -/
def execCp_A_C (s : State) : Result := .next (aluReg .cp .c (advance 0 s))

/-- CP A,D (R508). -/
def execCp_A_D (s : State) : Result := .next (aluReg .cp .d (advance 0 s))

/-- CP A,E (R508). -/
def execCp_A_E (s : State) : Result := .next (aluReg .cp .e (advance 0 s))

/-- CP A,H (R508). -/
def execCp_A_H (s : State) : Result := .next (aluReg .cp .h (advance 0 s))

/-- CP A,L (R508). -/
def execCp_A_L (s : State) : Result := .next (aluReg .cp .l (advance 0 s))

/-- CP A,(HL) (R508). -/
def execCp_A_mHL (s : State) : Result := .next (aluReg .cp .mHL (advance 0 s))

/-- CP A,A (R508). -/
def execCp_A_A (s : State) : Result := .next (aluReg .cp .a (advance 0 s))

/-- ADD A,d8 (R501). -/
def execAdd_A_d8 (n : Byte) (s : State) : Result := .next (aluA .add n (advance 1 s))

/-- ADC A,d8 (R502). -/
def execAdc_A_d8 (n : Byte) (s : State) : Result := .next (aluA .adc n (advance 1 s))

/-- SUB A,d8 (R503). -/
def execSub_A_d8 (n : Byte) (s : State) : Result := .next (aluA .sub n (advance 1 s))

/-- SBC A,d8 (R504). -/
def execSbc_A_d8 (n : Byte) (s : State) : Result := .next (aluA .sbc n (advance 1 s))

/-- AND A,d8 (R505). -/
def execAnd_A_d8 (n : Byte) (s : State) : Result := .next (aluA .and n (advance 1 s))

/-- XOR A,d8 (R506). -/
def execXor_A_d8 (n : Byte) (s : State) : Result := .next (aluA .xor n (advance 1 s))

/-- OR A,d8 (R507). -/
def execOr_A_d8 (n : Byte) (s : State) : Result := .next (aluA .or n (advance 1 s))

/-- CP A,d8 (R508). -/
def execCp_A_d8 (n : Byte) (s : State) : Result := .next (aluA .cp n (advance 1 s))

end Sys2Proof.Machine
end

