-- ==== Sys2Proof/Machine/Bits.lean ====
section
/-!
DEFINITION. Rotates, shifts and bit operations (44_rotate_shift_bit.md).
-/

namespace Sys2Proof.Machine

/-- What the CB entry of a second byte does (R804): group by x, operation or bit number by y, operand by z. -/
def cbEffect (code : Byte) (s : State) : State :=
  match fieldX code with
  | 0 => cbRotate (rotOfIndex (fieldY code)) (r8OfIndex (fieldZ code)) s
  | 1 => cbBit (fieldY code) (r8OfIndex (fieldZ code)) s
  | 2 => cbRes (fieldY code) (r8OfIndex (fieldZ code)) s
  | _ => cbSet (fieldY code) (r8OfIndex (fieldZ code)) s

/-- RLCA (R800). -/
def execRlca (s : State) : Result := .next (rotateA .rlc (advance 0 s))

/-- RRCA (R801). -/
def execRrca (s : State) : Result := .next (rotateA .rrc (advance 0 s))

/-- RLA (R802). -/
def execRla (s : State) : Result := .next (rotateA .rl (advance 0 s))

/-- RRA (R803). -/
def execRra (s : State) : Result := .next (rotateA .rr (advance 0 s))

/-- CB RLC B (R805). -/
def execRlc_B (s : State) : Result := .next (cbRotate .rlc .b (advance 1 s))

/-- CB RLC C (R805). -/
def execRlc_C (s : State) : Result := .next (cbRotate .rlc .c (advance 1 s))

/-- CB RLC D (R805). -/
def execRlc_D (s : State) : Result := .next (cbRotate .rlc .d (advance 1 s))

/-- CB RLC E (R805). -/
def execRlc_E (s : State) : Result := .next (cbRotate .rlc .e (advance 1 s))

/-- CB RLC H (R805). -/
def execRlc_H (s : State) : Result := .next (cbRotate .rlc .h (advance 1 s))

/-- CB RLC L (R805). -/
def execRlc_L (s : State) : Result := .next (cbRotate .rlc .l (advance 1 s))

/-- CB RLC (HL) (R805). -/
def execRlc_mHL (s : State) : Result := .next (cbRotate .rlc .mHL (advance 1 s))

/-- CB RLC A (R805). -/
def execRlc_A (s : State) : Result := .next (cbRotate .rlc .a (advance 1 s))

/-- CB RRC B (R806). -/
def execRrc_B (s : State) : Result := .next (cbRotate .rrc .b (advance 1 s))

/-- CB RRC C (R806). -/
def execRrc_C (s : State) : Result := .next (cbRotate .rrc .c (advance 1 s))

/-- CB RRC D (R806). -/
def execRrc_D (s : State) : Result := .next (cbRotate .rrc .d (advance 1 s))

/-- CB RRC E (R806). -/
def execRrc_E (s : State) : Result := .next (cbRotate .rrc .e (advance 1 s))

/-- CB RRC H (R806). -/
def execRrc_H (s : State) : Result := .next (cbRotate .rrc .h (advance 1 s))

/-- CB RRC L (R806). -/
def execRrc_L (s : State) : Result := .next (cbRotate .rrc .l (advance 1 s))

/-- CB RRC (HL) (R806). -/
def execRrc_mHL (s : State) : Result := .next (cbRotate .rrc .mHL (advance 1 s))

/-- CB RRC A (R806). -/
def execRrc_A (s : State) : Result := .next (cbRotate .rrc .a (advance 1 s))

/-- CB RL B (R807). -/
def execRl_B (s : State) : Result := .next (cbRotate .rl .b (advance 1 s))

/-- CB RL C (R807). -/
def execRl_C (s : State) : Result := .next (cbRotate .rl .c (advance 1 s))

/-- CB RL D (R807). -/
def execRl_D (s : State) : Result := .next (cbRotate .rl .d (advance 1 s))

/-- CB RL E (R807). -/
def execRl_E (s : State) : Result := .next (cbRotate .rl .e (advance 1 s))

/-- CB RL H (R807). -/
def execRl_H (s : State) : Result := .next (cbRotate .rl .h (advance 1 s))

/-- CB RL L (R807). -/
def execRl_L (s : State) : Result := .next (cbRotate .rl .l (advance 1 s))

/-- CB RL (HL) (R807). -/
def execRl_mHL (s : State) : Result := .next (cbRotate .rl .mHL (advance 1 s))

/-- CB RL A (R807). -/
def execRl_A (s : State) : Result := .next (cbRotate .rl .a (advance 1 s))

/-- CB RR B (R808). -/
def execRr_B (s : State) : Result := .next (cbRotate .rr .b (advance 1 s))

/-- CB RR C (R808). -/
def execRr_C (s : State) : Result := .next (cbRotate .rr .c (advance 1 s))

/-- CB RR D (R808). -/
def execRr_D (s : State) : Result := .next (cbRotate .rr .d (advance 1 s))

/-- CB RR E (R808). -/
def execRr_E (s : State) : Result := .next (cbRotate .rr .e (advance 1 s))

/-- CB RR H (R808). -/
def execRr_H (s : State) : Result := .next (cbRotate .rr .h (advance 1 s))

/-- CB RR L (R808). -/
def execRr_L (s : State) : Result := .next (cbRotate .rr .l (advance 1 s))

/-- CB RR (HL) (R808). -/
def execRr_mHL (s : State) : Result := .next (cbRotate .rr .mHL (advance 1 s))

/-- CB RR A (R808). -/
def execRr_A (s : State) : Result := .next (cbRotate .rr .a (advance 1 s))

/-- CB SLA B (R809). -/
def execSla_B (s : State) : Result := .next (cbRotate .sla .b (advance 1 s))

/-- CB SLA C (R809). -/
def execSla_C (s : State) : Result := .next (cbRotate .sla .c (advance 1 s))

/-- CB SLA D (R809). -/
def execSla_D (s : State) : Result := .next (cbRotate .sla .d (advance 1 s))

/-- CB SLA E (R809). -/
def execSla_E (s : State) : Result := .next (cbRotate .sla .e (advance 1 s))

/-- CB SLA H (R809). -/
def execSla_H (s : State) : Result := .next (cbRotate .sla .h (advance 1 s))

/-- CB SLA L (R809). -/
def execSla_L (s : State) : Result := .next (cbRotate .sla .l (advance 1 s))

/-- CB SLA (HL) (R809). -/
def execSla_mHL (s : State) : Result := .next (cbRotate .sla .mHL (advance 1 s))

/-- CB SLA A (R809). -/
def execSla_A (s : State) : Result := .next (cbRotate .sla .a (advance 1 s))

/-- CB SRA B (R810). -/
def execSra_B (s : State) : Result := .next (cbRotate .sra .b (advance 1 s))

/-- CB SRA C (R810). -/
def execSra_C (s : State) : Result := .next (cbRotate .sra .c (advance 1 s))

/-- CB SRA D (R810). -/
def execSra_D (s : State) : Result := .next (cbRotate .sra .d (advance 1 s))

/-- CB SRA E (R810). -/
def execSra_E (s : State) : Result := .next (cbRotate .sra .e (advance 1 s))

/-- CB SRA H (R810). -/
def execSra_H (s : State) : Result := .next (cbRotate .sra .h (advance 1 s))

/-- CB SRA L (R810). -/
def execSra_L (s : State) : Result := .next (cbRotate .sra .l (advance 1 s))

/-- CB SRA (HL) (R810). -/
def execSra_mHL (s : State) : Result := .next (cbRotate .sra .mHL (advance 1 s))

/-- CB SRA A (R810). -/
def execSra_A (s : State) : Result := .next (cbRotate .sra .a (advance 1 s))

/-- CB SWAP B (R811). -/
def execSwap_B (s : State) : Result := .next (cbRotate .swap .b (advance 1 s))

/-- CB SWAP C (R811). -/
def execSwap_C (s : State) : Result := .next (cbRotate .swap .c (advance 1 s))

/-- CB SWAP D (R811). -/
def execSwap_D (s : State) : Result := .next (cbRotate .swap .d (advance 1 s))

/-- CB SWAP E (R811). -/
def execSwap_E (s : State) : Result := .next (cbRotate .swap .e (advance 1 s))

/-- CB SWAP H (R811). -/
def execSwap_H (s : State) : Result := .next (cbRotate .swap .h (advance 1 s))

/-- CB SWAP L (R811). -/
def execSwap_L (s : State) : Result := .next (cbRotate .swap .l (advance 1 s))

/-- CB SWAP (HL) (R811). -/
def execSwap_mHL (s : State) : Result := .next (cbRotate .swap .mHL (advance 1 s))

/-- CB SWAP A (R811). -/
def execSwap_A (s : State) : Result := .next (cbRotate .swap .a (advance 1 s))

/-- CB SRL B (R812). -/
def execSrl_B (s : State) : Result := .next (cbRotate .srl .b (advance 1 s))

/-- CB SRL C (R812). -/
def execSrl_C (s : State) : Result := .next (cbRotate .srl .c (advance 1 s))

/-- CB SRL D (R812). -/
def execSrl_D (s : State) : Result := .next (cbRotate .srl .d (advance 1 s))

/-- CB SRL E (R812). -/
def execSrl_E (s : State) : Result := .next (cbRotate .srl .e (advance 1 s))

/-- CB SRL H (R812). -/
def execSrl_H (s : State) : Result := .next (cbRotate .srl .h (advance 1 s))

/-- CB SRL L (R812). -/
def execSrl_L (s : State) : Result := .next (cbRotate .srl .l (advance 1 s))

/-- CB SRL (HL) (R812). -/
def execSrl_mHL (s : State) : Result := .next (cbRotate .srl .mHL (advance 1 s))

/-- CB SRL A (R812). -/
def execSrl_A (s : State) : Result := .next (cbRotate .srl .a (advance 1 s))

/-- CB BIT 0,B (R813). -/
def execBit_0_B (s : State) : Result := .next (cbBit 0 .b (advance 1 s))

/-- CB BIT 0,C (R813). -/
def execBit_0_C (s : State) : Result := .next (cbBit 0 .c (advance 1 s))

/-- CB BIT 0,D (R813). -/
def execBit_0_D (s : State) : Result := .next (cbBit 0 .d (advance 1 s))

/-- CB BIT 0,E (R813). -/
def execBit_0_E (s : State) : Result := .next (cbBit 0 .e (advance 1 s))

/-- CB BIT 0,H (R813). -/
def execBit_0_H (s : State) : Result := .next (cbBit 0 .h (advance 1 s))

/-- CB BIT 0,L (R813). -/
def execBit_0_L (s : State) : Result := .next (cbBit 0 .l (advance 1 s))

/-- CB BIT 0,(HL) (R813). -/
def execBit_0_mHL (s : State) : Result := .next (cbBit 0 .mHL (advance 1 s))

/-- CB BIT 0,A (R813). -/
def execBit_0_A (s : State) : Result := .next (cbBit 0 .a (advance 1 s))

/-- CB BIT 1,B (R813). -/
def execBit_1_B (s : State) : Result := .next (cbBit 1 .b (advance 1 s))

/-- CB BIT 1,C (R813). -/
def execBit_1_C (s : State) : Result := .next (cbBit 1 .c (advance 1 s))

/-- CB BIT 1,D (R813). -/
def execBit_1_D (s : State) : Result := .next (cbBit 1 .d (advance 1 s))

/-- CB BIT 1,E (R813). -/
def execBit_1_E (s : State) : Result := .next (cbBit 1 .e (advance 1 s))

/-- CB BIT 1,H (R813). -/
def execBit_1_H (s : State) : Result := .next (cbBit 1 .h (advance 1 s))

/-- CB BIT 1,L (R813). -/
def execBit_1_L (s : State) : Result := .next (cbBit 1 .l (advance 1 s))

/-- CB BIT 1,(HL) (R813). -/
def execBit_1_mHL (s : State) : Result := .next (cbBit 1 .mHL (advance 1 s))

/-- CB BIT 1,A (R813). -/
def execBit_1_A (s : State) : Result := .next (cbBit 1 .a (advance 1 s))

/-- CB BIT 2,B (R813). -/
def execBit_2_B (s : State) : Result := .next (cbBit 2 .b (advance 1 s))

/-- CB BIT 2,C (R813). -/
def execBit_2_C (s : State) : Result := .next (cbBit 2 .c (advance 1 s))

/-- CB BIT 2,D (R813). -/
def execBit_2_D (s : State) : Result := .next (cbBit 2 .d (advance 1 s))

/-- CB BIT 2,E (R813). -/
def execBit_2_E (s : State) : Result := .next (cbBit 2 .e (advance 1 s))

/-- CB BIT 2,H (R813). -/
def execBit_2_H (s : State) : Result := .next (cbBit 2 .h (advance 1 s))

/-- CB BIT 2,L (R813). -/
def execBit_2_L (s : State) : Result := .next (cbBit 2 .l (advance 1 s))

/-- CB BIT 2,(HL) (R813). -/
def execBit_2_mHL (s : State) : Result := .next (cbBit 2 .mHL (advance 1 s))

/-- CB BIT 2,A (R813). -/
def execBit_2_A (s : State) : Result := .next (cbBit 2 .a (advance 1 s))

/-- CB BIT 3,B (R813). -/
def execBit_3_B (s : State) : Result := .next (cbBit 3 .b (advance 1 s))

/-- CB BIT 3,C (R813). -/
def execBit_3_C (s : State) : Result := .next (cbBit 3 .c (advance 1 s))

/-- CB BIT 3,D (R813). -/
def execBit_3_D (s : State) : Result := .next (cbBit 3 .d (advance 1 s))

/-- CB BIT 3,E (R813). -/
def execBit_3_E (s : State) : Result := .next (cbBit 3 .e (advance 1 s))

/-- CB BIT 3,H (R813). -/
def execBit_3_H (s : State) : Result := .next (cbBit 3 .h (advance 1 s))

/-- CB BIT 3,L (R813). -/
def execBit_3_L (s : State) : Result := .next (cbBit 3 .l (advance 1 s))

/-- CB BIT 3,(HL) (R813). -/
def execBit_3_mHL (s : State) : Result := .next (cbBit 3 .mHL (advance 1 s))

/-- CB BIT 3,A (R813). -/
def execBit_3_A (s : State) : Result := .next (cbBit 3 .a (advance 1 s))

/-- CB BIT 4,B (R813). -/
def execBit_4_B (s : State) : Result := .next (cbBit 4 .b (advance 1 s))

/-- CB BIT 4,C (R813). -/
def execBit_4_C (s : State) : Result := .next (cbBit 4 .c (advance 1 s))

/-- CB BIT 4,D (R813). -/
def execBit_4_D (s : State) : Result := .next (cbBit 4 .d (advance 1 s))

/-- CB BIT 4,E (R813). -/
def execBit_4_E (s : State) : Result := .next (cbBit 4 .e (advance 1 s))

/-- CB BIT 4,H (R813). -/
def execBit_4_H (s : State) : Result := .next (cbBit 4 .h (advance 1 s))

/-- CB BIT 4,L (R813). -/
def execBit_4_L (s : State) : Result := .next (cbBit 4 .l (advance 1 s))

/-- CB BIT 4,(HL) (R813). -/
def execBit_4_mHL (s : State) : Result := .next (cbBit 4 .mHL (advance 1 s))

/-- CB BIT 4,A (R813). -/
def execBit_4_A (s : State) : Result := .next (cbBit 4 .a (advance 1 s))

/-- CB BIT 5,B (R813). -/
def execBit_5_B (s : State) : Result := .next (cbBit 5 .b (advance 1 s))

/-- CB BIT 5,C (R813). -/
def execBit_5_C (s : State) : Result := .next (cbBit 5 .c (advance 1 s))

/-- CB BIT 5,D (R813). -/
def execBit_5_D (s : State) : Result := .next (cbBit 5 .d (advance 1 s))

/-- CB BIT 5,E (R813). -/
def execBit_5_E (s : State) : Result := .next (cbBit 5 .e (advance 1 s))

/-- CB BIT 5,H (R813). -/
def execBit_5_H (s : State) : Result := .next (cbBit 5 .h (advance 1 s))

/-- CB BIT 5,L (R813). -/
def execBit_5_L (s : State) : Result := .next (cbBit 5 .l (advance 1 s))

/-- CB BIT 5,(HL) (R813). -/
def execBit_5_mHL (s : State) : Result := .next (cbBit 5 .mHL (advance 1 s))

/-- CB BIT 5,A (R813). -/
def execBit_5_A (s : State) : Result := .next (cbBit 5 .a (advance 1 s))

/-- CB BIT 6,B (R813). -/
def execBit_6_B (s : State) : Result := .next (cbBit 6 .b (advance 1 s))

/-- CB BIT 6,C (R813). -/
def execBit_6_C (s : State) : Result := .next (cbBit 6 .c (advance 1 s))

/-- CB BIT 6,D (R813). -/
def execBit_6_D (s : State) : Result := .next (cbBit 6 .d (advance 1 s))

/-- CB BIT 6,E (R813). -/
def execBit_6_E (s : State) : Result := .next (cbBit 6 .e (advance 1 s))

/-- CB BIT 6,H (R813). -/
def execBit_6_H (s : State) : Result := .next (cbBit 6 .h (advance 1 s))

/-- CB BIT 6,L (R813). -/
def execBit_6_L (s : State) : Result := .next (cbBit 6 .l (advance 1 s))

/-- CB BIT 6,(HL) (R813). -/
def execBit_6_mHL (s : State) : Result := .next (cbBit 6 .mHL (advance 1 s))

/-- CB BIT 6,A (R813). -/
def execBit_6_A (s : State) : Result := .next (cbBit 6 .a (advance 1 s))

/-- CB BIT 7,B (R813). -/
def execBit_7_B (s : State) : Result := .next (cbBit 7 .b (advance 1 s))

/-- CB BIT 7,C (R813). -/
def execBit_7_C (s : State) : Result := .next (cbBit 7 .c (advance 1 s))

/-- CB BIT 7,D (R813). -/
def execBit_7_D (s : State) : Result := .next (cbBit 7 .d (advance 1 s))

/-- CB BIT 7,E (R813). -/
def execBit_7_E (s : State) : Result := .next (cbBit 7 .e (advance 1 s))

/-- CB BIT 7,H (R813). -/
def execBit_7_H (s : State) : Result := .next (cbBit 7 .h (advance 1 s))

/-- CB BIT 7,L (R813). -/
def execBit_7_L (s : State) : Result := .next (cbBit 7 .l (advance 1 s))

/-- CB BIT 7,(HL) (R813). -/
def execBit_7_mHL (s : State) : Result := .next (cbBit 7 .mHL (advance 1 s))

/-- CB BIT 7,A (R813). -/
def execBit_7_A (s : State) : Result := .next (cbBit 7 .a (advance 1 s))

/-- CB RES 0,B (R814). -/
def execRes_0_B (s : State) : Result := .next (cbRes 0 .b (advance 1 s))

/-- CB RES 0,C (R814). -/
def execRes_0_C (s : State) : Result := .next (cbRes 0 .c (advance 1 s))

/-- CB RES 0,D (R814). -/
def execRes_0_D (s : State) : Result := .next (cbRes 0 .d (advance 1 s))

/-- CB RES 0,E (R814). -/
def execRes_0_E (s : State) : Result := .next (cbRes 0 .e (advance 1 s))

/-- CB RES 0,H (R814). -/
def execRes_0_H (s : State) : Result := .next (cbRes 0 .h (advance 1 s))

/-- CB RES 0,L (R814). -/
def execRes_0_L (s : State) : Result := .next (cbRes 0 .l (advance 1 s))

/-- CB RES 0,(HL) (R814). -/
def execRes_0_mHL (s : State) : Result := .next (cbRes 0 .mHL (advance 1 s))

/-- CB RES 0,A (R814). -/
def execRes_0_A (s : State) : Result := .next (cbRes 0 .a (advance 1 s))

/-- CB RES 1,B (R814). -/
def execRes_1_B (s : State) : Result := .next (cbRes 1 .b (advance 1 s))

/-- CB RES 1,C (R814). -/
def execRes_1_C (s : State) : Result := .next (cbRes 1 .c (advance 1 s))

/-- CB RES 1,D (R814). -/
def execRes_1_D (s : State) : Result := .next (cbRes 1 .d (advance 1 s))

/-- CB RES 1,E (R814). -/
def execRes_1_E (s : State) : Result := .next (cbRes 1 .e (advance 1 s))

/-- CB RES 1,H (R814). -/
def execRes_1_H (s : State) : Result := .next (cbRes 1 .h (advance 1 s))

/-- CB RES 1,L (R814). -/
def execRes_1_L (s : State) : Result := .next (cbRes 1 .l (advance 1 s))

/-- CB RES 1,(HL) (R814). -/
def execRes_1_mHL (s : State) : Result := .next (cbRes 1 .mHL (advance 1 s))

/-- CB RES 1,A (R814). -/
def execRes_1_A (s : State) : Result := .next (cbRes 1 .a (advance 1 s))

/-- CB RES 2,B (R814). -/
def execRes_2_B (s : State) : Result := .next (cbRes 2 .b (advance 1 s))

/-- CB RES 2,C (R814). -/
def execRes_2_C (s : State) : Result := .next (cbRes 2 .c (advance 1 s))

/-- CB RES 2,D (R814). -/
def execRes_2_D (s : State) : Result := .next (cbRes 2 .d (advance 1 s))

/-- CB RES 2,E (R814). -/
def execRes_2_E (s : State) : Result := .next (cbRes 2 .e (advance 1 s))

/-- CB RES 2,H (R814). -/
def execRes_2_H (s : State) : Result := .next (cbRes 2 .h (advance 1 s))

/-- CB RES 2,L (R814). -/
def execRes_2_L (s : State) : Result := .next (cbRes 2 .l (advance 1 s))

/-- CB RES 2,(HL) (R814). -/
def execRes_2_mHL (s : State) : Result := .next (cbRes 2 .mHL (advance 1 s))

/-- CB RES 2,A (R814). -/
def execRes_2_A (s : State) : Result := .next (cbRes 2 .a (advance 1 s))

/-- CB RES 3,B (R814). -/
def execRes_3_B (s : State) : Result := .next (cbRes 3 .b (advance 1 s))

/-- CB RES 3,C (R814). -/
def execRes_3_C (s : State) : Result := .next (cbRes 3 .c (advance 1 s))

/-- CB RES 3,D (R814). -/
def execRes_3_D (s : State) : Result := .next (cbRes 3 .d (advance 1 s))

/-- CB RES 3,E (R814). -/
def execRes_3_E (s : State) : Result := .next (cbRes 3 .e (advance 1 s))

/-- CB RES 3,H (R814). -/
def execRes_3_H (s : State) : Result := .next (cbRes 3 .h (advance 1 s))

/-- CB RES 3,L (R814). -/
def execRes_3_L (s : State) : Result := .next (cbRes 3 .l (advance 1 s))

/-- CB RES 3,(HL) (R814). -/
def execRes_3_mHL (s : State) : Result := .next (cbRes 3 .mHL (advance 1 s))

/-- CB RES 3,A (R814). -/
def execRes_3_A (s : State) : Result := .next (cbRes 3 .a (advance 1 s))

/-- CB RES 4,B (R814). -/
def execRes_4_B (s : State) : Result := .next (cbRes 4 .b (advance 1 s))

/-- CB RES 4,C (R814). -/
def execRes_4_C (s : State) : Result := .next (cbRes 4 .c (advance 1 s))

/-- CB RES 4,D (R814). -/
def execRes_4_D (s : State) : Result := .next (cbRes 4 .d (advance 1 s))

/-- CB RES 4,E (R814). -/
def execRes_4_E (s : State) : Result := .next (cbRes 4 .e (advance 1 s))

/-- CB RES 4,H (R814). -/
def execRes_4_H (s : State) : Result := .next (cbRes 4 .h (advance 1 s))

/-- CB RES 4,L (R814). -/
def execRes_4_L (s : State) : Result := .next (cbRes 4 .l (advance 1 s))

/-- CB RES 4,(HL) (R814). -/
def execRes_4_mHL (s : State) : Result := .next (cbRes 4 .mHL (advance 1 s))

/-- CB RES 4,A (R814). -/
def execRes_4_A (s : State) : Result := .next (cbRes 4 .a (advance 1 s))

/-- CB RES 5,B (R814). -/
def execRes_5_B (s : State) : Result := .next (cbRes 5 .b (advance 1 s))

/-- CB RES 5,C (R814). -/
def execRes_5_C (s : State) : Result := .next (cbRes 5 .c (advance 1 s))

/-- CB RES 5,D (R814). -/
def execRes_5_D (s : State) : Result := .next (cbRes 5 .d (advance 1 s))

/-- CB RES 5,E (R814). -/
def execRes_5_E (s : State) : Result := .next (cbRes 5 .e (advance 1 s))

/-- CB RES 5,H (R814). -/
def execRes_5_H (s : State) : Result := .next (cbRes 5 .h (advance 1 s))

/-- CB RES 5,L (R814). -/
def execRes_5_L (s : State) : Result := .next (cbRes 5 .l (advance 1 s))

/-- CB RES 5,(HL) (R814). -/
def execRes_5_mHL (s : State) : Result := .next (cbRes 5 .mHL (advance 1 s))

/-- CB RES 5,A (R814). -/
def execRes_5_A (s : State) : Result := .next (cbRes 5 .a (advance 1 s))

/-- CB RES 6,B (R814). -/
def execRes_6_B (s : State) : Result := .next (cbRes 6 .b (advance 1 s))

/-- CB RES 6,C (R814). -/
def execRes_6_C (s : State) : Result := .next (cbRes 6 .c (advance 1 s))

/-- CB RES 6,D (R814). -/
def execRes_6_D (s : State) : Result := .next (cbRes 6 .d (advance 1 s))

/-- CB RES 6,E (R814). -/
def execRes_6_E (s : State) : Result := .next (cbRes 6 .e (advance 1 s))

/-- CB RES 6,H (R814). -/
def execRes_6_H (s : State) : Result := .next (cbRes 6 .h (advance 1 s))

/-- CB RES 6,L (R814). -/
def execRes_6_L (s : State) : Result := .next (cbRes 6 .l (advance 1 s))

/-- CB RES 6,(HL) (R814). -/
def execRes_6_mHL (s : State) : Result := .next (cbRes 6 .mHL (advance 1 s))

/-- CB RES 6,A (R814). -/
def execRes_6_A (s : State) : Result := .next (cbRes 6 .a (advance 1 s))

/-- CB RES 7,B (R814). -/
def execRes_7_B (s : State) : Result := .next (cbRes 7 .b (advance 1 s))

/-- CB RES 7,C (R814). -/
def execRes_7_C (s : State) : Result := .next (cbRes 7 .c (advance 1 s))

/-- CB RES 7,D (R814). -/
def execRes_7_D (s : State) : Result := .next (cbRes 7 .d (advance 1 s))

/-- CB RES 7,E (R814). -/
def execRes_7_E (s : State) : Result := .next (cbRes 7 .e (advance 1 s))

/-- CB RES 7,H (R814). -/
def execRes_7_H (s : State) : Result := .next (cbRes 7 .h (advance 1 s))

/-- CB RES 7,L (R814). -/
def execRes_7_L (s : State) : Result := .next (cbRes 7 .l (advance 1 s))

/-- CB RES 7,(HL) (R814). -/
def execRes_7_mHL (s : State) : Result := .next (cbRes 7 .mHL (advance 1 s))

/-- CB RES 7,A (R814). -/
def execRes_7_A (s : State) : Result := .next (cbRes 7 .a (advance 1 s))

/-- CB SET 0,B (R815). -/
def execSet_0_B (s : State) : Result := .next (cbSet 0 .b (advance 1 s))

/-- CB SET 0,C (R815). -/
def execSet_0_C (s : State) : Result := .next (cbSet 0 .c (advance 1 s))

/-- CB SET 0,D (R815). -/
def execSet_0_D (s : State) : Result := .next (cbSet 0 .d (advance 1 s))

/-- CB SET 0,E (R815). -/
def execSet_0_E (s : State) : Result := .next (cbSet 0 .e (advance 1 s))

/-- CB SET 0,H (R815). -/
def execSet_0_H (s : State) : Result := .next (cbSet 0 .h (advance 1 s))

/-- CB SET 0,L (R815). -/
def execSet_0_L (s : State) : Result := .next (cbSet 0 .l (advance 1 s))

/-- CB SET 0,(HL) (R815). -/
def execSet_0_mHL (s : State) : Result := .next (cbSet 0 .mHL (advance 1 s))

/-- CB SET 0,A (R815). -/
def execSet_0_A (s : State) : Result := .next (cbSet 0 .a (advance 1 s))

/-- CB SET 1,B (R815). -/
def execSet_1_B (s : State) : Result := .next (cbSet 1 .b (advance 1 s))

/-- CB SET 1,C (R815). -/
def execSet_1_C (s : State) : Result := .next (cbSet 1 .c (advance 1 s))

/-- CB SET 1,D (R815). -/
def execSet_1_D (s : State) : Result := .next (cbSet 1 .d (advance 1 s))

/-- CB SET 1,E (R815). -/
def execSet_1_E (s : State) : Result := .next (cbSet 1 .e (advance 1 s))

/-- CB SET 1,H (R815). -/
def execSet_1_H (s : State) : Result := .next (cbSet 1 .h (advance 1 s))

/-- CB SET 1,L (R815). -/
def execSet_1_L (s : State) : Result := .next (cbSet 1 .l (advance 1 s))

/-- CB SET 1,(HL) (R815). -/
def execSet_1_mHL (s : State) : Result := .next (cbSet 1 .mHL (advance 1 s))

/-- CB SET 1,A (R815). -/
def execSet_1_A (s : State) : Result := .next (cbSet 1 .a (advance 1 s))

/-- CB SET 2,B (R815). -/
def execSet_2_B (s : State) : Result := .next (cbSet 2 .b (advance 1 s))

/-- CB SET 2,C (R815). -/
def execSet_2_C (s : State) : Result := .next (cbSet 2 .c (advance 1 s))

/-- CB SET 2,D (R815). -/
def execSet_2_D (s : State) : Result := .next (cbSet 2 .d (advance 1 s))

/-- CB SET 2,E (R815). -/
def execSet_2_E (s : State) : Result := .next (cbSet 2 .e (advance 1 s))

/-- CB SET 2,H (R815). -/
def execSet_2_H (s : State) : Result := .next (cbSet 2 .h (advance 1 s))

/-- CB SET 2,L (R815). -/
def execSet_2_L (s : State) : Result := .next (cbSet 2 .l (advance 1 s))

/-- CB SET 2,(HL) (R815). -/
def execSet_2_mHL (s : State) : Result := .next (cbSet 2 .mHL (advance 1 s))

/-- CB SET 2,A (R815). -/
def execSet_2_A (s : State) : Result := .next (cbSet 2 .a (advance 1 s))

/-- CB SET 3,B (R815). -/
def execSet_3_B (s : State) : Result := .next (cbSet 3 .b (advance 1 s))

/-- CB SET 3,C (R815). -/
def execSet_3_C (s : State) : Result := .next (cbSet 3 .c (advance 1 s))

/-- CB SET 3,D (R815). -/
def execSet_3_D (s : State) : Result := .next (cbSet 3 .d (advance 1 s))

/-- CB SET 3,E (R815). -/
def execSet_3_E (s : State) : Result := .next (cbSet 3 .e (advance 1 s))

/-- CB SET 3,H (R815). -/
def execSet_3_H (s : State) : Result := .next (cbSet 3 .h (advance 1 s))

/-- CB SET 3,L (R815). -/
def execSet_3_L (s : State) : Result := .next (cbSet 3 .l (advance 1 s))

/-- CB SET 3,(HL) (R815). -/
def execSet_3_mHL (s : State) : Result := .next (cbSet 3 .mHL (advance 1 s))

/-- CB SET 3,A (R815). -/
def execSet_3_A (s : State) : Result := .next (cbSet 3 .a (advance 1 s))

/-- CB SET 4,B (R815). -/
def execSet_4_B (s : State) : Result := .next (cbSet 4 .b (advance 1 s))

/-- CB SET 4,C (R815). -/
def execSet_4_C (s : State) : Result := .next (cbSet 4 .c (advance 1 s))

/-- CB SET 4,D (R815). -/
def execSet_4_D (s : State) : Result := .next (cbSet 4 .d (advance 1 s))

/-- CB SET 4,E (R815). -/
def execSet_4_E (s : State) : Result := .next (cbSet 4 .e (advance 1 s))

/-- CB SET 4,H (R815). -/
def execSet_4_H (s : State) : Result := .next (cbSet 4 .h (advance 1 s))

/-- CB SET 4,L (R815). -/
def execSet_4_L (s : State) : Result := .next (cbSet 4 .l (advance 1 s))

/-- CB SET 4,(HL) (R815). -/
def execSet_4_mHL (s : State) : Result := .next (cbSet 4 .mHL (advance 1 s))

/-- CB SET 4,A (R815). -/
def execSet_4_A (s : State) : Result := .next (cbSet 4 .a (advance 1 s))

/-- CB SET 5,B (R815). -/
def execSet_5_B (s : State) : Result := .next (cbSet 5 .b (advance 1 s))

/-- CB SET 5,C (R815). -/
def execSet_5_C (s : State) : Result := .next (cbSet 5 .c (advance 1 s))

/-- CB SET 5,D (R815). -/
def execSet_5_D (s : State) : Result := .next (cbSet 5 .d (advance 1 s))

/-- CB SET 5,E (R815). -/
def execSet_5_E (s : State) : Result := .next (cbSet 5 .e (advance 1 s))

/-- CB SET 5,H (R815). -/
def execSet_5_H (s : State) : Result := .next (cbSet 5 .h (advance 1 s))

/-- CB SET 5,L (R815). -/
def execSet_5_L (s : State) : Result := .next (cbSet 5 .l (advance 1 s))

/-- CB SET 5,(HL) (R815). -/
def execSet_5_mHL (s : State) : Result := .next (cbSet 5 .mHL (advance 1 s))

/-- CB SET 5,A (R815). -/
def execSet_5_A (s : State) : Result := .next (cbSet 5 .a (advance 1 s))

/-- CB SET 6,B (R815). -/
def execSet_6_B (s : State) : Result := .next (cbSet 6 .b (advance 1 s))

/-- CB SET 6,C (R815). -/
def execSet_6_C (s : State) : Result := .next (cbSet 6 .c (advance 1 s))

/-- CB SET 6,D (R815). -/
def execSet_6_D (s : State) : Result := .next (cbSet 6 .d (advance 1 s))

/-- CB SET 6,E (R815). -/
def execSet_6_E (s : State) : Result := .next (cbSet 6 .e (advance 1 s))

/-- CB SET 6,H (R815). -/
def execSet_6_H (s : State) : Result := .next (cbSet 6 .h (advance 1 s))

/-- CB SET 6,L (R815). -/
def execSet_6_L (s : State) : Result := .next (cbSet 6 .l (advance 1 s))

/-- CB SET 6,(HL) (R815). -/
def execSet_6_mHL (s : State) : Result := .next (cbSet 6 .mHL (advance 1 s))

/-- CB SET 6,A (R815). -/
def execSet_6_A (s : State) : Result := .next (cbSet 6 .a (advance 1 s))

/-- CB SET 7,B (R815). -/
def execSet_7_B (s : State) : Result := .next (cbSet 7 .b (advance 1 s))

/-- CB SET 7,C (R815). -/
def execSet_7_C (s : State) : Result := .next (cbSet 7 .c (advance 1 s))

/-- CB SET 7,D (R815). -/
def execSet_7_D (s : State) : Result := .next (cbSet 7 .d (advance 1 s))

/-- CB SET 7,E (R815). -/
def execSet_7_E (s : State) : Result := .next (cbSet 7 .e (advance 1 s))

/-- CB SET 7,H (R815). -/
def execSet_7_H (s : State) : Result := .next (cbSet 7 .h (advance 1 s))

/-- CB SET 7,L (R815). -/
def execSet_7_L (s : State) : Result := .next (cbSet 7 .l (advance 1 s))

/-- CB SET 7,(HL) (R815). -/
def execSet_7_mHL (s : State) : Result := .next (cbSet 7 .mHL (advance 1 s))

/-- CB SET 7,A (R815). -/
def execSet_7_A (s : State) : Result := .next (cbSet 7 .a (advance 1 s))

end Sys2Proof.Machine
end

