-- ==== Sys2Proof/Machine/Control.lean ====
section
/-!
DEFINITION. Control transfer (45_control.md). In each meaning PC is already past the instruction, so a relative jump is based
on the address after it and a call pushes that address.
-/

namespace Sys2Proof.Machine

/-- `PC <- t`. -/
def jumpTo (t : Word) (s : State) : State := { s with pc := t }

/-- `PC <- PC + sext_8(e)` (R904). -/
def jumpBy (e : Byte) (s : State) : State := { s with pc := s.pc + sext8 e }

/-- `Push16(PC); PC <- t` (R906, R911). -/
def callTo (t : Word) (s : State) : State := { push16 s.pc s with pc := t }

/-- `PC <- Pop16()` (R908). -/
def returnToCaller (s : State) : State := { popped s with pc := popValue s }

/-- Do an action when a condition holds, else nothing (R902, R905, R907, R909). -/
def when (cc : Cond) (act : State → State) (s : State) : State := if condHolds cc s then act s else s

/-- JR e8 (R904). -/
def execJr_e8 (e : Byte) (s : State) : Result := .next (jumpBy e (advance 1 s))

/-- JR NZ,e8 (R905). -/
def execJr_NZ_e8 (e : Byte) (s : State) : Result := .next (when .nz (jumpBy e) (advance 1 s))

/-- JR Z,e8 (R905). -/
def execJr_Z_e8 (e : Byte) (s : State) : Result := .next (when .z (jumpBy e) (advance 1 s))

/-- JR NC,e8 (R905). -/
def execJr_NC_e8 (e : Byte) (s : State) : Result := .next (when .nc (jumpBy e) (advance 1 s))

/-- JR C,e8 (R905). -/
def execJr_C_e8 (e : Byte) (s : State) : Result := .next (when .c (jumpBy e) (advance 1 s))

/-- RET NZ (R909). -/
def execRet_NZ (s : State) : Result := .next (when .nz returnToCaller (advance 0 s))

/-- JP NZ,a16 (R902). -/
def execJp_NZ_a16 (w : Word) (s : State) : Result := .next (when .nz (jumpTo w) (advance 2 s))

/-- JP a16 (R901). -/
def execJp_a16 (w : Word) (s : State) : Result := .next (jumpTo w (advance 2 s))

/-- CALL NZ,a16 (R907). -/
def execCall_NZ_a16 (w : Word) (s : State) : Result := .next (when .nz (callTo w) (advance 2 s))

/-- RST 0x00 (R911). -/
def execRst_00 (s : State) : Result := .next (callTo 0x0000 (advance 0 s))

/-- RET Z (R909). -/
def execRet_Z (s : State) : Result := .next (when .z returnToCaller (advance 0 s))

/-- RET (R908). -/
def execRet (s : State) : Result := .next (returnToCaller (advance 0 s))

/-- JP Z,a16 (R902). -/
def execJp_Z_a16 (w : Word) (s : State) : Result := .next (when .z (jumpTo w) (advance 2 s))

/-- CALL Z,a16 (R907). -/
def execCall_Z_a16 (w : Word) (s : State) : Result := .next (when .z (callTo w) (advance 2 s))

/-- CALL a16 (R906). -/
def execCall_a16 (w : Word) (s : State) : Result := .next (callTo w (advance 2 s))

/-- RST 0x08 (R911). -/
def execRst_08 (s : State) : Result := .next (callTo 0x0008 (advance 0 s))

/-- RET NC (R909). -/
def execRet_NC (s : State) : Result := .next (when .nc returnToCaller (advance 0 s))

/-- JP NC,a16 (R902). -/
def execJp_NC_a16 (w : Word) (s : State) : Result := .next (when .nc (jumpTo w) (advance 2 s))

/-- CALL NC,a16 (R907). -/
def execCall_NC_a16 (w : Word) (s : State) : Result := .next (when .nc (callTo w) (advance 2 s))

/-- RST 0x10 (R911). -/
def execRst_10 (s : State) : Result := .next (callTo 0x0010 (advance 0 s))

/-- RET C (R909). -/
def execRet_C (s : State) : Result := .next (when .c returnToCaller (advance 0 s))

/-- RETI (R910). -/
def execReti (s : State) : Result := .next (returnFromInterrupt (advance 0 s))

/-- JP C,a16 (R902). -/
def execJp_C_a16 (w : Word) (s : State) : Result := .next (when .c (jumpTo w) (advance 2 s))

/-- CALL C,a16 (R907). -/
def execCall_C_a16 (w : Word) (s : State) : Result := .next (when .c (callTo w) (advance 2 s))

/-- RST 0x18 (R911). -/
def execRst_18 (s : State) : Result := .next (callTo 0x0018 (advance 0 s))

/-- RST 0x20 (R911). -/
def execRst_20 (s : State) : Result := .next (callTo 0x0020 (advance 0 s))

/-- JP HL (R903). -/
def execJp_HL (s : State) : Result := .next (jumpTo (get16 .hl s) (advance 0 s))

/-- RST 0x28 (R911). -/
def execRst_28 (s : State) : Result := .next (callTo 0x0028 (advance 0 s))

/-- RST 0x30 (R911). -/
def execRst_30 (s : State) : Result := .next (callTo 0x0030 (advance 0 s))

/-- RST 0x38 (R911). -/
def execRst_38 (s : State) : Result := .next (callTo 0x0038 (advance 0 s))

end Sys2Proof.Machine
end

