-- ==== Sys2Proof/Machine/Load8.lean ====
section
/-!
DEFINITION. 8-bit loads and stores (40_load8.md). None of them writes F (R400).
-/

namespace Sys2Proof.Machine

/-- LD (BC),A (R408). -/
def execLd_mBC_A (s : State) : Result := .next (storeA (get16 .bc s) (advance 0 s))

/-- LD B,d8 (R404). -/
def execLd_B_d8 (n : Byte) (s : State) : Result := .next (set8 .b n (advance 1 s))

/-- LD A,(BC) (R406). -/
def execLd_A_mBC (s : State) : Result := .next (loadA (get16 .bc s) (advance 0 s))

/-- LD C,d8 (R404). -/
def execLd_C_d8 (n : Byte) (s : State) : Result := .next (set8 .c n (advance 1 s))

/-- LD (DE),A (R409). -/
def execLd_mDE_A (s : State) : Result := .next (storeA (get16 .de s) (advance 0 s))

/-- LD D,d8 (R404). -/
def execLd_D_d8 (n : Byte) (s : State) : Result := .next (set8 .d n (advance 1 s))

/-- LD A,(DE) (R407). -/
def execLd_A_mDE (s : State) : Result := .next (loadA (get16 .de s) (advance 0 s))

/-- LD E,d8 (R404). -/
def execLd_E_d8 (n : Byte) (s : State) : Result := .next (set8 .e n (advance 1 s))

/-- LD (HL+),A (R412). -/
def execLd_mHLi_A (s : State) : Result := .next (adjustHl 1 (storeA (get16 .hl s) (advance 0 s)))

/-- LD H,d8 (R404). -/
def execLd_H_d8 (n : Byte) (s : State) : Result := .next (set8 .h n (advance 1 s))

/-- LD A,(HL+) (R410). -/
def execLd_A_mHLi (s : State) : Result := .next (adjustHl 1 (loadA (get16 .hl s) (advance 0 s)))

/-- LD L,d8 (R404). -/
def execLd_L_d8 (n : Byte) (s : State) : Result := .next (set8 .l n (advance 1 s))

/-- LD (HL-),A (R413). -/
def execLd_mHLd_A (s : State) : Result := .next (adjustHl (-1) (storeA (get16 .hl s) (advance 0 s)))

/-- LD (HL),d8 (R405). -/
def execLd_mHL_d8 (n : Byte) (s : State) : Result := .next (set8 .mHL n (advance 1 s))

/-- LD A,(HL-) (R411). -/
def execLd_A_mHLd (s : State) : Result := .next (adjustHl (-1) (loadA (get16 .hl s) (advance 0 s)))

/-- LD A,d8 (R404). -/
def execLd_A_d8 (n : Byte) (s : State) : Result := .next (set8 .a n (advance 1 s))

/-- LD B,B (R401). -/
def execLd_B_B (s : State) : Result := .next (move8 .b .b (advance 0 s))

/-- LD B,C (R401). -/
def execLd_B_C (s : State) : Result := .next (move8 .b .c (advance 0 s))

/-- LD B,D (R401). -/
def execLd_B_D (s : State) : Result := .next (move8 .b .d (advance 0 s))

/-- LD B,E (R401). -/
def execLd_B_E (s : State) : Result := .next (move8 .b .e (advance 0 s))

/-- LD B,H (R401). -/
def execLd_B_H (s : State) : Result := .next (move8 .b .h (advance 0 s))

/-- LD B,L (R401). -/
def execLd_B_L (s : State) : Result := .next (move8 .b .l (advance 0 s))

/-- LD B,(HL) (R402). -/
def execLd_B_mHL (s : State) : Result := .next (move8 .b .mHL (advance 0 s))

/-- LD B,A (R401). -/
def execLd_B_A (s : State) : Result := .next (move8 .b .a (advance 0 s))

/-- LD C,B (R401). -/
def execLd_C_B (s : State) : Result := .next (move8 .c .b (advance 0 s))

/-- LD C,C (R401). -/
def execLd_C_C (s : State) : Result := .next (move8 .c .c (advance 0 s))

/-- LD C,D (R401). -/
def execLd_C_D (s : State) : Result := .next (move8 .c .d (advance 0 s))

/-- LD C,E (R401). -/
def execLd_C_E (s : State) : Result := .next (move8 .c .e (advance 0 s))

/-- LD C,H (R401). -/
def execLd_C_H (s : State) : Result := .next (move8 .c .h (advance 0 s))

/-- LD C,L (R401). -/
def execLd_C_L (s : State) : Result := .next (move8 .c .l (advance 0 s))

/-- LD C,(HL) (R402). -/
def execLd_C_mHL (s : State) : Result := .next (move8 .c .mHL (advance 0 s))

/-- LD C,A (R401). -/
def execLd_C_A (s : State) : Result := .next (move8 .c .a (advance 0 s))

/-- LD D,B (R401). -/
def execLd_D_B (s : State) : Result := .next (move8 .d .b (advance 0 s))

/-- LD D,C (R401). -/
def execLd_D_C (s : State) : Result := .next (move8 .d .c (advance 0 s))

/-- LD D,D (R401). -/
def execLd_D_D (s : State) : Result := .next (move8 .d .d (advance 0 s))

/-- LD D,E (R401). -/
def execLd_D_E (s : State) : Result := .next (move8 .d .e (advance 0 s))

/-- LD D,H (R401). -/
def execLd_D_H (s : State) : Result := .next (move8 .d .h (advance 0 s))

/-- LD D,L (R401). -/
def execLd_D_L (s : State) : Result := .next (move8 .d .l (advance 0 s))

/-- LD D,(HL) (R402). -/
def execLd_D_mHL (s : State) : Result := .next (move8 .d .mHL (advance 0 s))

/-- LD D,A (R401). -/
def execLd_D_A (s : State) : Result := .next (move8 .d .a (advance 0 s))

/-- LD E,B (R401). -/
def execLd_E_B (s : State) : Result := .next (move8 .e .b (advance 0 s))

/-- LD E,C (R401). -/
def execLd_E_C (s : State) : Result := .next (move8 .e .c (advance 0 s))

/-- LD E,D (R401). -/
def execLd_E_D (s : State) : Result := .next (move8 .e .d (advance 0 s))

/-- LD E,E (R401). -/
def execLd_E_E (s : State) : Result := .next (move8 .e .e (advance 0 s))

/-- LD E,H (R401). -/
def execLd_E_H (s : State) : Result := .next (move8 .e .h (advance 0 s))

/-- LD E,L (R401). -/
def execLd_E_L (s : State) : Result := .next (move8 .e .l (advance 0 s))

/-- LD E,(HL) (R402). -/
def execLd_E_mHL (s : State) : Result := .next (move8 .e .mHL (advance 0 s))

/-- LD E,A (R401). -/
def execLd_E_A (s : State) : Result := .next (move8 .e .a (advance 0 s))

/-- LD H,B (R401). -/
def execLd_H_B (s : State) : Result := .next (move8 .h .b (advance 0 s))

/-- LD H,C (R401). -/
def execLd_H_C (s : State) : Result := .next (move8 .h .c (advance 0 s))

/-- LD H,D (R401). -/
def execLd_H_D (s : State) : Result := .next (move8 .h .d (advance 0 s))

/-- LD H,E (R401). -/
def execLd_H_E (s : State) : Result := .next (move8 .h .e (advance 0 s))

/-- LD H,H (R401). -/
def execLd_H_H (s : State) : Result := .next (move8 .h .h (advance 0 s))

/-- LD H,L (R401). -/
def execLd_H_L (s : State) : Result := .next (move8 .h .l (advance 0 s))

/-- LD H,(HL) (R402). -/
def execLd_H_mHL (s : State) : Result := .next (move8 .h .mHL (advance 0 s))

/-- LD H,A (R401). -/
def execLd_H_A (s : State) : Result := .next (move8 .h .a (advance 0 s))

/-- LD L,B (R401). -/
def execLd_L_B (s : State) : Result := .next (move8 .l .b (advance 0 s))

/-- LD L,C (R401). -/
def execLd_L_C (s : State) : Result := .next (move8 .l .c (advance 0 s))

/-- LD L,D (R401). -/
def execLd_L_D (s : State) : Result := .next (move8 .l .d (advance 0 s))

/-- LD L,E (R401). -/
def execLd_L_E (s : State) : Result := .next (move8 .l .e (advance 0 s))

/-- LD L,H (R401). -/
def execLd_L_H (s : State) : Result := .next (move8 .l .h (advance 0 s))

/-- LD L,L (R401). -/
def execLd_L_L (s : State) : Result := .next (move8 .l .l (advance 0 s))

/-- LD L,(HL) (R402). -/
def execLd_L_mHL (s : State) : Result := .next (move8 .l .mHL (advance 0 s))

/-- LD L,A (R401). -/
def execLd_L_A (s : State) : Result := .next (move8 .l .a (advance 0 s))

/-- LD (HL),B (R403). -/
def execLd_mHL_B (s : State) : Result := .next (move8 .mHL .b (advance 0 s))

/-- LD (HL),C (R403). -/
def execLd_mHL_C (s : State) : Result := .next (move8 .mHL .c (advance 0 s))

/-- LD (HL),D (R403). -/
def execLd_mHL_D (s : State) : Result := .next (move8 .mHL .d (advance 0 s))

/-- LD (HL),E (R403). -/
def execLd_mHL_E (s : State) : Result := .next (move8 .mHL .e (advance 0 s))

/-- LD (HL),H (R403). -/
def execLd_mHL_H (s : State) : Result := .next (move8 .mHL .h (advance 0 s))

/-- LD (HL),L (R403). -/
def execLd_mHL_L (s : State) : Result := .next (move8 .mHL .l (advance 0 s))

/-- LD (HL),A (R403). -/
def execLd_mHL_A (s : State) : Result := .next (move8 .mHL .a (advance 0 s))

/-- LD A,B (R401). -/
def execLd_A_B (s : State) : Result := .next (move8 .a .b (advance 0 s))

/-- LD A,C (R401). -/
def execLd_A_C (s : State) : Result := .next (move8 .a .c (advance 0 s))

/-- LD A,D (R401). -/
def execLd_A_D (s : State) : Result := .next (move8 .a .d (advance 0 s))

/-- LD A,E (R401). -/
def execLd_A_E (s : State) : Result := .next (move8 .a .e (advance 0 s))

/-- LD A,H (R401). -/
def execLd_A_H (s : State) : Result := .next (move8 .a .h (advance 0 s))

/-- LD A,L (R401). -/
def execLd_A_L (s : State) : Result := .next (move8 .a .l (advance 0 s))

/-- LD A,(HL) (R402). -/
def execLd_A_mHL (s : State) : Result := .next (move8 .a .mHL (advance 0 s))

/-- LD A,A (R401). -/
def execLd_A_A (s : State) : Result := .next (move8 .a .a (advance 0 s))

/-- LDH (a8),A (R417). -/
def execLdh_ma8_A (n : Byte) (s : State) : Result := .next (storeA (highPage n) (advance 1 s))

/-- LD (C),A (R419). -/
def execLd_mC_A (s : State) : Result := .next (storeA (highPage s.c) (advance 0 s))

/-- LD (a16),A (R415). -/
def execLd_ma16_A (w : Word) (s : State) : Result := .next (storeA w (advance 2 s))

/-- LDH A,(a8) (R416). -/
def execLdh_A_ma8 (n : Byte) (s : State) : Result := .next (loadA (highPage n) (advance 1 s))

/-- LD A,(C) (R418). -/
def execLd_A_mC (s : State) : Result := .next (loadA (highPage s.c) (advance 0 s))

/-- LD A,(a16) (R414). -/
def execLd_A_ma16 (w : Word) (s : State) : Result := .next (loadA w (advance 2 s))

end Sys2Proof.Machine
end

