-- ==== Sys2Proof/Machine/System.lean ====
section
/-!
DEFINITION. System and miscellaneous instructions (46_system.md), the prefix byte by itself, and the eleven illegal opcodes.
-/

namespace Sys2Proof.Machine

/-- HALT: HALT_BUG is set when GK_ADMITTED, IME = 0 and an interrupt is already pending; MODE becomes HALTED in any case
(R1001, D21). -/
def haltCore (s : State) : State :=
  { s with haltBug := s.haltBug || (s.cfg.gkAdmitted && !s.ime && decide (pending s ≠ 0)), mode := .halted }

/-- NOP (R1000). -/
def execNop (s : State) : Result := .next (advance 0 s)

/-- STOP (R1002); the second byte is ignored (log 21). -/
def execStop (_b : Byte) (s : State) : Result := .next { advance 1 s with mode := .stopped }

/-- HALT (R1001). -/
def execHalt (s : State) : Result := .next (haltCore (advance 0 s))

/-- PREFIX CB (R1005). -/
def execPrefix_CB (s : State) : Result := .next (cbEffect (busRead s (operandPc s)) (advance 1 s))

/-- ILLEGAL_D3 (R1006). -/
def execIllegal_D3 (s : State) : Result := .next (decodeFault .unimplementedInstruction 0xD3 false s)

/-- ILLEGAL_DB (R1006). -/
def execIllegal_DB (s : State) : Result := .next (decodeFault .unimplementedInstruction 0xDB false s)

/-- ILLEGAL_DD (R1006). -/
def execIllegal_DD (s : State) : Result := .next (decodeFault .unimplementedInstruction 0xDD false s)

/-- ILLEGAL_E3 (R1006). -/
def execIllegal_E3 (s : State) : Result := .next (decodeFault .unimplementedInstruction 0xE3 false s)

/-- ILLEGAL_E4 (R1006). -/
def execIllegal_E4 (s : State) : Result := .next (decodeFault .unimplementedInstruction 0xE4 false s)

/-- ILLEGAL_EB (R1006). -/
def execIllegal_EB (s : State) : Result := .next (decodeFault .unimplementedInstruction 0xEB false s)

/-- ILLEGAL_EC (R1006). -/
def execIllegal_EC (s : State) : Result := .next (decodeFault .unimplementedInstruction 0xEC false s)

/-- ILLEGAL_ED (R1006). -/
def execIllegal_ED (s : State) : Result := .next (decodeFault .unimplementedInstruction 0xED false s)

/-- DI (R1003). -/
def execDi (s : State) : Result := .next { advance 0 s with ime := false, eiPending := false }

/-- ILLEGAL_F4 (R1006). -/
def execIllegal_F4 (s : State) : Result := .next (decodeFault .unimplementedInstruction 0xF4 false s)

/-- EI (R1004). -/
def execEi (s : State) : Result := .next { advance 0 s with eiPending := true }

/-- ILLEGAL_FC (R1006). -/
def execIllegal_FC (s : State) : Result := .next (decodeFault .unimplementedInstruction 0xFC false s)

/-- ILLEGAL_FD (R1006). -/
def execIllegal_FD (s : State) : Result := .next (decodeFault .unimplementedInstruction 0xFD false s)

end Sys2Proof.Machine
end

