-- ==== Sys2Proof/Machine/Engine.lean ====
section
/-!
DEFINITION. The execution engine (30_encoding.md R310 to R313): fetching, the step in its parts, and placing an instruction
where the engine fetches.
-/

namespace Sys2Proof.Machine

/-- The instruction at PC: the opcode byte at PC and the bytes from `operandPc` on (R310). Reading is without side effects
(R214), so the two bytes that a shorter instruction does not have are read for nothing (log 6). -/
def fetchedInstr (s : State) : Instr :=
  decodeBytes (busRead s s.pc) (busRead s (operandPc s)) (busRead s (operandPc s + 1))

/-- Whether the fetched opcode is prefixed (R311). -/
def fetchedPrefixed (s : State) : Bool := busRead s s.pc = 0xCB

/-- The byte that selects the dispatch entry: the opcode, or the byte after 0xCB (R311). -/
def fetchedCode (s : State) : Byte :=
  if fetchedPrefixed s then busRead s (operandPc s) else busRead s s.pc

/-- The dispatch entry of the fetched opcode (R311). -/
def fetchedEntry (s : State) : Option Entry := dispatchEntry s.cfg (fetchedPrefixed s) (fetchedCode s)

/-- The promotion of EI_PENDING at the end of an instruction; `armed` is EI_PENDING before its fetch (R1112). -/
def promoteEi (armed : Bool) (t : State) : State :=
  if armed && t.eiPending then { t with ime := true, eiPending := false } else t

/-- The end of a step that ran an instruction from `s` to `t`: EI promotion, then the cycle charge (R311, R312). -/
def retire (wake : Nat) (cost : Cost) (s t : State) : State :=
  charge (wake + costFor cost (taken (fetchedPrefixed s) (fetchedCode s) s)) (promoteEi s.eiPending t)

/-- Fetch, decode and execute one instruction (R311). A decode fault adds no cycles, not even those of a wake (R313,
log 22). -/
def fetchExecute (wake : Nat) (s : State) : Result :=
  match fetchedEntry s with
  | none => .next (decodeFault .unimplementedInstruction (fetchedCode s) (fetchedPrefixed s) s)
  | some entry =>
    if entry.gk && !s.cfg.gkAdmitted then
      .next (decodeFault .notAdmitted (fetchedCode s) (fetchedPrefixed s) s)
    else
      match exec (fetchedInstr s) s with
      | .next t => .next (retire wake entry.cost s t)
      | .fault r => .fault r
      | .refused r => .refused r

/-- A step in RUNNING, with the cycles of a wake from HALTED: an interrupt first, else an instruction (R311, R1115);
right after an EI as `Dispatches` says (R1004, log 27). -/
def runStep (wake : Nat) (s : State) : Result :=
  if Dispatches s then .next (charge (wake + 20) (dispatchInterrupt s))
  else fetchExecute wake s

/-- One step (R311): FAULTED is stuck, STOPPED idles, HALTED idles or wakes, RUNNING runs. -/
def engineStep (s : State) : Result :=
  match s.mode with
  | .faulted => .next s
  | .stopped => .next (charge 4 s)
  | .halted => if pending s = 0 then .next (charge 4 s) else runStep 4 { s with mode := .running }
  | .running => runStep 0 s

/-- Put a byte into the storage that the engine reads at an address, ROM included: the load of a program, not a bus write.
UNUSABLE has no storage, so nothing is placed there (log 20). -/
def placeByte (s : State) (addr : Word) (v : Byte) : State :=
  match region addr with
  | .rom0 => { s with rom := s.rom.write addr.toNat v }
  | .romx => { s with rom := s.rom.write (romxOffset s addr) v }
  | .vram | .eram | .wram | .echo | .oam | .unusable | .io | .hram | .ie => busWrite s addr v

/-- The state with three bytes placed at PC and everything out of the way that would keep the next step from fetching
them: MODE RUNNING, no HALT bug, and no interrupt that would be dispatched first. -/
def placeAtPc (b0 b1 b2 : Byte) (s : State) : State :=
  let t := placeByte (placeByte (placeByte { s with mode := .running, faultInfo := none, haltBug := false }
    s.pc b0) (s.pc + 1) b1) (s.pc + 2) b2
  { t with ime := t.ime && decide (pending t = 0) }

end Sys2Proof.Machine
end

