-- ==== Sys2Proof/Machine/Step.lean ====
section
/-!
DEFINITION. The step of the machine (30_encoding.md R311), and the state with an instruction placed where the step fetches.
-/

namespace Sys2Proof.Machine

/-- One step of the core. -/
def step (s : State) : Host.Outcome State Fault Refusal := engineStep s

/-- The state in which the next step fetches the instruction that spec/opcode_table.json's number `w` of `nbits` bits
stands for, the bytes after the row's own being zero (log 10, log 13). -/
def State.withFetchWord (s : State) (nbits w : Nat) : State :=
  let bytes := tableBytes nbits w
  placeAtPc (bytes.getD 0 0) (bytes.getD 1 0) (bytes.getD 2 0) s

end Sys2Proof.Machine
end

