-- ==== Sys2Proof/Machine/Init.lean ====
section
/-!
DEFINITION. Initialization (70_reset_and_hazards.md R1200 to R1204): the catalog load, the ROM load and the reset state,
for any choice of the parameters.
-/

namespace Sys2Proof.Machine

/-- The contents that the spec leaves open at reset: RESET_GPR and RAM_INIT (R140, D5, D6). The RAM arrays are listed by
the bus address of the storage byte; IE and IF stand by name. -/
structure PowerOn where
  a : Byte
  f : Byte
  b : Byte
  c : Byte
  d : Byte
  e : Byte
  h : Byte
  l : Byte
  ie : Byte
  ifr : Byte
  ram : List Host.Cell
  deriving DecidableEq, Repr

/-- The choice State.reset makes: zeros (log 1, log 2). -/
def PowerOn.zeros : PowerOn :=
  { a := 0, f := 0, b := 0, c := 0, d := 0, e := 0, h := 0, l := 0, ie := 0, ifr := 0, ram := [] }

/-- The values a DMG has after its boot ROM, which R1204 offers as one setting of RESET_GPR. -/
def PowerOn.dmg : PowerOn :=
  { PowerOn.zeros with a := 0x01, f := 0xB0, b := 0x00, c := 0x13, d := 0x00, e := 0xD8, h := 0x01, l := 0x4D }

/-- Whether a key of `ram` is a byte of an array of R131 that has its home there: all of them but IF and IE. -/
def isRamKey (key : Nat) : Bool :=
  decide (0x8000 ≤ key ∧ key ≤ 0xDFFF) || decide (0xFE00 ≤ key ∧ key ≤ 0xFE9F) ||
    (decide (0xFF00 ≤ key ∧ key ≤ 0xFFFE) && decide (key ≠ 0xFF0F))

/-- The RAM arrays of a power-on choice in canonical form; a cell that is no storage byte is left out. -/
def initRam : List Host.Cell → Memory
  | [] => []
  | (key, v) :: rest => if isRamKey key then (initRam rest).write key v else initRam rest

/-- The ROM of an image: the first ROM_CAPACITY bytes, and 0x00 where the image ends earlier (R1201). -/
def initRom (capacity : Nat) (image : List Byte) : Memory := Memory.ofBytes 0 (image.take capacity)

/-- The reset state of a machine with parameters `cfg` and power-on contents `p` (R140, R1204). -/
def resetState (cfg : Config) (p : PowerOn) (image : List Byte) : State :=
  { a := p.a, f := p.f &&& 0xF0, b := p.b, c := p.c, d := p.d, e := p.e, h := p.h, l := p.l
    pc := 0x0100, sp := 0xFFFE
    mode := .running, ime := false, eiPending := false, haltBug := false
    cycles := 0, faultInfo := none
    ie := p.ie, ifr := p.ifr, rom := initRom cfg.romCapacity image, ram := initRam p.ram
    mstate := mapperStart cfg.mapper, cfg := cfg }

/-- What `initialize` returns when it builds a machine: the machine, and its warnings, the malformed keys that the load of
the catalog skipped (R1145, R1202 e). -/
structure Initialized where
  machine : State
  warnings : List (List Char)
  deriving DecidableEq, Repr

/-- `initialize(catalog, rom_bytes)` with the other parameters of R11, and the one of log 27, as arguments: a machine, or a
LoadError and no machine (R1200). -/
def initMachine (gkAdmitted : Bool) (extraBanks : Nat) (mapper : Mapper) (eiHolds : Bool) (p : PowerOn)
    (catalog : CatalogInput) (image : List Byte) : Except LoadError Initialized :=
  match loadCatalog catalog with
  | .error err => .error err
  | .ok (cat, warnings) => .ok ⟨resetState ⟨gkAdmitted, extraBanks, mapper, cat, eiHolds⟩ p image, warnings⟩

end Sys2Proof.Machine
end

