-- ==== Sys2Proof/Machine/HostCalls.lean ====
section
/-!
DEFINITION. The host interface (60_exceptions.md R1106, R1140 to R1144). Every call runs between steps (R1140), so each is
a function of the state (log 15).
-/

namespace Sys2Proof.Machine

/-- `read(machine, addr)` (R1143). -/
def hostRead (s : State) (addr : Word) : Byte := busRead s addr

/-- `write(machine, addr, v)` (R1143). -/
def hostWrite (s : State) (addr : Word) (v : Byte) : State := busWrite s addr v

/-- `request_interrupt(machine, k)` (R1106): nothing when the call is rejected. -/
def requestInterrupt (s : State) (k : Nat) : Option State :=
  if k ≤ 4 then some (busWrite s ifAddr (busRead s ifAddr ||| (1#8 <<< k))) else none

/-- `wake(machine)` (R1141). -/
def hostWake (s : State) : State := if s.mode = .stopped then { s with mode := .running } else s

/-- The register names of `set_reg` (R1144). -/
inductive RegName
  | a | f | b | c | d | e | h | l | af | bc | de | hl | pc | sp
  deriving DecidableEq, Repr

/-- `set_reg(machine, name, v)` (R1144): an 8-bit register takes the low byte of `v` (log 23), F and AF keep F's low nibble 0
(D19). -/
def setReg (s : State) (name : RegName) (v : Word) : State :=
  match name with
  | .a => { s with a := lo v }
  | .f => { s with f := lo v &&& 0xF0 }
  | .b => { s with b := lo v }
  | .c => { s with c := lo v }
  | .d => { s with d := lo v }
  | .e => { s with e := lo v }
  | .h => { s with h := lo v }
  | .l => { s with l := lo v }
  | .af => set16 .af v s
  | .bc => set16 .bc v s
  | .de => set16 .de v s
  | .hl => set16 .hl v s
  | .pc => { s with pc := v }
  | .sp => set16 .sp v s

/-- The flags by name. -/
inductive FlagName
  | z | n | h | c
  deriving DecidableEq, Repr

/-- `set_flag(machine, f, b)` (R1144): one bit of F, the other flags left alone, the low nibble 0 (R101; DEDUCED,
log 24). -/
def setFlag (s : State) (flag : FlagName) (v : Bool) : State :=
  match flag with
  | .z => setFlags v (flagN s) (flagH s) (flagC s) s
  | .n => setFlags (flagZ s) v (flagH s) (flagC s) s
  | .h => setFlags (flagZ s) (flagN s) v (flagC s) s
  | .c => setFlags (flagZ s) (flagN s) (flagH s) v s

/-- What `snapshot(machine)` returns (R1140, R1144). -/
structure Snapshot where
  a : Byte
  f : Byte
  b : Byte
  c : Byte
  d : Byte
  e : Byte
  h : Byte
  l : Byte
  pc : Word
  sp : Word
  flagZ : Bool
  flagN : Bool
  flagH : Bool
  flagC : Bool
  mode : Mode
  ime : Bool
  eiPending : Bool
  haltBug : Bool
  cycles : Nat
  faultInfo : Option FaultRecord
  deriving DecidableEq, Repr

/-- `snapshot(machine)` (R1144). -/
def snapshot (s : State) : Snapshot :=
  { a := s.a, f := s.f, b := s.b, c := s.c, d := s.d, e := s.e, h := s.h, l := s.l, pc := s.pc, sp := s.sp
    flagZ := flagZ s, flagN := flagN s, flagH := flagH s, flagC := flagC s
    mode := s.mode, ime := s.ime, eiPending := s.eiPending, haltBug := s.haltBug, cycles := s.cycles
    faultInfo := s.faultInfo }

/-- A StepResult `{status, cycles, fault?}` (R1142). -/
structure StepResult where
  status : Mode
  cycles : Nat
  fault : Option FaultRecord
  deriving DecidableEq, Repr

/-- The StepResult of a step from `s` to `t`: MODE after it, the cycles it added, and the fault in FAULTED only (R1142,
log 14). -/
def stepResult (s t : State) : StepResult :=
  { status := t.mode, cycles := t.cycles - s.cycles, fault := if t.mode = .faulted then t.faultInfo else none }

end Sys2Proof.Machine
end

