-- ==== Sys2Proof/Safety.lean ====
section
/-!
DEFINITION. The terms that statements are made in: what a legal state is, what a safe run avoids, and what "unchanged" means
for registers, engine state and memory.
-/

namespace Sys2Proof.Machine

/-- A legal state: what 10_state.md says of every reachable state, and what the model's own representation keeps. -/
structure State.Inv (s : State) : Prop where
  /-- The low nibble of F is 0 (R101). -/
  fLow : s.f &&& 0x0F = 0
  /-- ROM and RAM are in canonical form. -/
  romWf : s.rom.wf
  ramWf : s.ram.wf
  /-- ROM holds at most ROM_CAPACITY bytes (R130). -/
  romKeys : ∀ x ∈ s.rom, x.1 < s.cfg.romCapacity
  /-- RAM lists only bytes of the arrays of R131; ECHO and UNUSABLE have no storage. -/
  ramKeys : ∀ x ∈ s.ram, isRamKey x.1 = true
  /-- FAULT_INFO is set exactly in FAULTED (R125). -/
  faultMode : s.mode = .faulted ↔ s.faultInfo.isSome = true
  /-- HALT_BUG is pending only in HALTED, or where a decode fault restored it (R123, R313). -/
  haltBugMode : s.haltBug = true → s.mode = .halted ∨ s.mode = .faulted
  /-- Without GK_ADMITTED no instruction can set IME, so no interrupt is ever dispatched (91_not_in_source.md N28). -/
  gkOff : s.cfg.gkAdmitted = false → s.ime = false ∧ s.eiPending = false ∧ s.haltBug = false

/-- A run is safe while the core has not stopped on a decode fault (R1103). -/
abbrev Safe (s : State) : Prop := s.mode ≠ .faulted

/-- The step at `s` fetches an instruction: RUNNING, and no interrupt is dispatched first (R311). -/
abbrev Fetches (s : State) : Prop := s.mode = .running ∧ ¬Dispatches s

/-- The fetched opcode has a dispatch entry that may run: it is listed, and admitted if it is marked gk (R12, R311). -/
def Admitted (s : State) (entry : Entry) : Prop :=
  fetchedEntry s = some entry ∧ (entry.gk = true → s.cfg.gkAdmitted = true)

/-- The registers but PC, as one value. -/
structure Regs where
  a : Byte
  f : Byte
  b : Byte
  c : Byte
  d : Byte
  e : Byte
  h : Byte
  l : Byte
  sp : Word
  deriving DecidableEq, Repr

def State.regs (s : State) : Regs := ⟨s.a, s.f, s.b, s.c, s.d, s.e, s.h, s.l, s.sp⟩

/-- One 8-bit register replaced; the index 6 names memory and replaces none (R106, R305). -/
def Regs.put8 (r : Regs) : R8 → Byte → Regs
  | .b, v => { r with b := v }
  | .c, v => { r with c := v }
  | .d, v => { r with d := v }
  | .e, v => { r with e := v }
  | .h, v => { r with h := v }
  | .l, v => { r with l := v }
  | .mHL, _ => r
  | .a, v => { r with a := v }

/-- One pair or SP replaced, high byte first; AF keeps F's low nibble 0 (R104, R108). -/
def Regs.put16 (r : Regs) : Reg16 → Word → Regs
  | .bc, v => { r with b := hi v, c := lo v }
  | .de, v => { r with d := hi v, e := lo v }
  | .hl, v => { r with h := hi v, l := lo v }
  | .sp, v => { r with sp := v }
  | .af, v => { r with a := hi v, f := lo v &&& 0xF0 }

/-- The four flags of a state and the low nibble of F (R101). -/
def FlagsAre (t : State) (z n h c : Bool) : Prop :=
  flagZ t = z ∧ flagN t = n ∧ flagH t = h ∧ flagC t = c ∧ t.f &&& 0x0F = 0

/-- The engine state and the parameters, but for HALT_BUG, which the fetch of every instruction clears (R310). -/
structure EngineView where
  mode : Mode
  ime : Bool
  eiPending : Bool
  cycles : Nat
  faultInfo : Option FaultRecord
  rom : Memory
  cfg : Config
  deriving DecidableEq, Repr

def State.engine (s : State) : EngineView :=
  ⟨s.mode, s.ime, s.eiPending, s.cycles, s.faultInfo, s.rom, s.cfg⟩

/-- The address after an instruction of `n` bytes at PC; after a HALT bug its first byte does not count (R310). -/
def after (n : Nat) (s : State) : Word :=
  (if s.haltBug = true then s.pc else s.pc + 1) + BitVec.ofNat 16 (n - 1)

/-- What every instruction that sets no engine state leaves behind when it goes on at `target`: HALT_BUG cleared by its fetch,
the rest of the engine state as before. -/
def GoesTo (target : Word) (s t : State) : Prop := t.pc = target ∧ t.haltBug = false ∧ t.engine = s.engine

/-- The same for an instruction of `n` bytes that transfers no control. -/
abbrev Advances (n : Nat) (s t : State) : Prop := GoesTo (after n s) s t

/-- Every byte of memory reads as before, and MSTATE is as before. -/
def SameMemory (s t : State) : Prop := (∀ addr, busRead t addr = busRead s addr) ∧ t.mstate = s.mstate

/-- An address in the mapper-control window (R206). -/
abbrev inMapperWindow (addr : Word) : Prop := 0x2000 ≤ addr.toNat ∧ addr.toNat ≤ 0x3FFF

/-- An address with storage that a bus write changes to the byte written: every region but ROM and UNUSABLE (R201, R213). -/
abbrev Writable (addr : Word) : Prop := region addr ≠ .rom0 ∧ region addr ≠ .romx ∧ region addr ≠ .unusable

/-- Where a bus write at `target` may be seen: at the byte itself under each of its addresses (ECHO and WRAM share their
bytes, R208), and through a mapper's hook in the ROMX window (R204, R206). -/
def reachedBy (cfg : Config) (target addr : Word) : Prop :=
  (Writable target ∧ ramKey addr = ramKey target) ∨
    (cfg.mapper ≠ .noMapper ∧ inMapperWindow target ∧ region addr = .romx)

/-- MSTATE after a bus write (R205, R206). -/
def hook (cfg : Config) (m : MState) (target : Word) (v : Byte) : MState :=
  if inMapperWindow target then mapperWrite cfg.mapper m target v else m

/-- A store of the byte `v` at `target`: the byte reads back under each of its addresses, every byte it cannot reach reads
as before, and MSTATE follows the mapper hook. -/
def StoresByte (target : Word) (v : Byte) (s t : State) : Prop :=
  (s.ram.wf → Writable target → ∀ addr, ramKey addr = ramKey target → busRead t addr = v) ∧
  (∀ addr, ¬reachedBy s.cfg target addr → busRead t addr = busRead s addr) ∧
  t.mstate = hook s.cfg s.mstate target v

/-- A store of two bytes at two addresses, the first one first. -/
def StoresTwo (first : Word) (u : Byte) (second : Word) (v : Byte) (s t : State) : Prop :=
  (s.ram.wf → Writable first → ∀ addr, ramKey addr = ramKey first → busRead t addr = u) ∧
  (s.ram.wf → Writable second → ∀ addr, ramKey addr = ramKey second → busRead t addr = v) ∧
  (∀ addr, ¬reachedBy s.cfg first addr → ¬reachedBy s.cfg second addr → busRead t addr = busRead s addr) ∧
  t.mstate = hook s.cfg (hook s.cfg s.mstate first u) second v

/-- Where the result of an operation on an 8-bit operand goes in memory: for (HL) to the byte at HL, else nowhere (R305). -/
def ResultInMemory (r : R8) (v : Byte) (s t : State) : Prop :=
  (r = .mHL → StoresByte (cat s.h s.l) v s t) ∧ (r ≠ .mHL → SameMemory s t)

/-- The rows of one map of a catalog document (R1202). -/
def docRows (doc : CatalogDoc) (prefixed : Bool) : List (List Char × CatalogEntry) :=
  if prefixed then doc.cbprefixed else doc.unprefixed

/-- The key names an opcode whose entry the load looks at: it is two hexadecimal digits, of either case (log 5), and the
opcode is no hole (R1202 e, f). -/
def LooksAt (prefixed : Bool) (key : List Char) (code : Byte) : Prop :=
  keyByte key = some code ∧ ¬(prefixed = false ∧ code ∈ holes)

/-- The checks of R1202 b, c and d on an entry. At 0xCB they want length 1 (log 26) and four unchanged flags (log 28). -/
structure PassesChecks (prefixed : Bool) (code : Byte) (e : CatalogEntry) : Prop where
  length : e.bytes = entryLength prefixed code
  cycles : (∃ t, e.cycles = .number t) ∨ (∃ t n, e.cycles = .pair t n ∧ ∃ cc, conditionOf prefixed code = some cc)
  flags : ∀ m, e.flags = some m → m = flagsLine prefixed code

/-- The cost that an entry gives, as the dispatch table holds it (R312, R1202 c). -/
def GivesCost (e : CatalogEntry) : Cost → Prop
  | .one t => e.cycles = .number t
  | .pair t n => e.cycles = .pair t n

/-- The opcodes whose meaning the source settles (R12, R1102): 0x40 to 0xBF, INC r, DEC r and LD r,d8 with their (HL) forms,
LD (HL),d8 among them (log 30). -/
abbrev SourceOpcode (op : Byte) : Prop :=
  (0x40 ≤ op.toNat ∧ op.toNat ≤ 0xBF) ∨
    (op.toNat ≤ 0x3F ∧ (op.toNat % 8 = 4 ∨ op.toNat % 8 = 5 ∨ op.toNat % 8 = 6))

/-- Bit `k` of a byte rotated or shifted, read off the bits of the byte before (R800 to R812). -/
def movedBit : RotOp → Byte → Bool → Nat → Bool
  | .rlc, v, _, k => v.getLsbD ((k + 7) % 8)
  | .rrc, v, _, k => v.getLsbD ((k + 1) % 8)
  | .rl, v, cf, k => if k = 0 then cf else v.getLsbD (k - 1)
  | .rr, v, cf, k => if k = 7 then cf else v.getLsbD (k + 1)
  | .sla, v, _, k => if k = 0 then false else v.getLsbD (k - 1)
  | .sra, v, _, k => if k = 7 then v.getLsbD 7 else v.getLsbD (k + 1)
  | .swap, v, _, k => v.getLsbD ((k + 4) % 8)
  | .srl, v, _, k => if k = 7 then false else v.getLsbD (k + 1)

/-- The bit shifted out: bit 7 to the left, bit 0 to the right, none for SWAP (R805 to R812). -/
def outBit : RotOp → Byte → Bool
  | .rlc, v | .rl, v | .sla, v => v.getLsbD 7
  | .rrc, v | .rr, v | .sra, v | .srl, v => v.getLsbD 0
  | .swap, _ => false

end Sys2Proof.Machine
end

