-- ==== Sys2Proof/WellFormed.lean ====
section
/-!
DEFINITION. Which terms of Instr are complete instructions.
-/

namespace Sys2Proof

/-- A complete instruction. Every operand of a constructor has exactly the values its field admits (R306), so the one
term that is no instruction by itself is the bare prefix byte: 0xCB and the byte after it are ONE instruction (R300,
R1005), the constructor of the row with both bytes. -/
abbrev WellFormed (i : Instr) : Prop := i ≠ .prefix_CB

end Sys2Proof
end

