-- ==== Sys2Proof/Certificates/Slice0/Obligations.lean ====
section
/-!
DEFINITION. The statements for the provers, from the numbered rules of spec/: encoding, the address bus, the step and its
exceptions, the host interface, and for every instruction what it does and what it leaves alone.
-/

section
open Sys2Proof Sys2Proof.Machine

/-! ### Encoding and decoding -/

/-- Decoding the bytes of a complete instruction, whatever follows them, gives it back with what follows (R300, R309, R314,
R317). -/
def Obligations.EncodeThenDecode : Prop :=
  ∀ (i : Instr) (rest : List Byte), WellFormed i → decode (encode i ++ rest) = .ok (i, rest)

/-- What was decoded is what encodes the result, so no two byte strings decode to one term of Instr (formats of R300). Two
model choices are in it: STOP keeps its second byte, which R316 says is ignored, as an operand (log 21), and the list that is
0xCB alone decodes to the row PREFIX CB (log 11). -/
def Obligations.DecodeThenEncode : Prop :=
  ∀ (bytes rest : List Byte) (i : Instr), decode bytes = .ok (i, rest) → encode i ++ rest = bytes

/-- The accumulator operations by opcode arithmetic (R303, with the operand order of R305). -/
def Obligations.AluOpcodesByArithmetic : Prop :=
  ∀ (ooo sss : Nat) (op : AluOp) (r : R8) (b1 b2 : Byte),
    [AluOp.add, .adc, .sub, .sbc, .and, .xor, .or, .cp][ooo]? = some op →
    [R8.b, .c, .d, .e, .h, .l, .mHL, .a][sss]? = some r →
    decodeBytes (BitVec.ofNat 8 (0x80 + 8 * ooo + sss)) b1 b2 = aluBlock op r ∧
    decodeBytes (BitVec.ofNat 8 (0xC6 + 8 * ooo)) b1 b2 = aluImm op b1

/-- The load block and the CB table by their fields: 0x40 + 8 ddd + sss, and 64 x + 8 y + z after 0xCB; the load slot with
both operands (HL) is HALT (R301, R302, R305, R804). -/
def Obligations.LoadBlockAndPrefixedTable : Prop :=
  ∀ (y z : Nat) (dst src : R8) (op : RotOp) (b2 : Byte),
    [R8.b, .c, .d, .e, .h, .l, .mHL, .a][y]? = some dst →
    [R8.b, .c, .d, .e, .h, .l, .mHL, .a][z]? = some src →
    [RotOp.rlc, .rrc, .rl, .rr, .sla, .sra, .swap, .srl][y]? = some op →
    decodeBytes (BitVec.ofNat 8 (0x40 + 8 * y + z)) 0 b2 = (if y = 6 ∧ z = 6 then .halt else ldBlock dst src) ∧
    decodeBytes 0xCB (BitVec.ofNat 8 (8 * y + z)) b2 = rotBlock op src ∧
    decodeBytes 0xCB (BitVec.ofNat 8 (0x40 + 8 * y + z)) b2 = bitBlock y src ∧
    decodeBytes 0xCB (BitVec.ofNat 8 (0x80 + 8 * y + z)) b2 = resBlock y src ∧
    decodeBytes 0xCB (BitVec.ofNat 8 (0xC0 + 8 * y + z)) b2 = setBlock y src

/-- Words written out bit by bit from the spec's encodings, one for each family (R302, R309). -/
def Obligations.SampleWordsDecode : Prop :=
  decodeBytes 0b01000001#8 0 0 = .ld_B_C ∧
  decodeBytes 0b00111110#8 0x7F 0 = .ld_A_d8 0x7F ∧
  decodeBytes 0b11101010#8 0x34 0x12 = .ld_ma16_A 0x1234 ∧
  decodeBytes 0b10011100#8 0 0 = .sbc_A_H ∧
  decodeBytes 0b00110101#8 0 0 = .dec_mHL ∧
  decodeBytes 0b11110101#8 0 0 = .push_AF ∧
  decodeBytes 0b00111001#8 0 0 = .add_HL_SP ∧
  decodeBytes 0b11001011#8 0b01111110#8 0 = .bit_7_mHL ∧
  decodeBytes 0b00111000#8 0xFC 0 = .jr_C_e8 0xFC ∧
  decodeBytes 0b11101111#8 0 0 = .rst_28 ∧
  decodeBytes 0b01110110#8 0 0 = .halt

/-! ### Reset and legal states -/

/-- The values after reset (R140, R1204): those given by number, the registers as RESET_GPR gives them, F with its low nibble
cleared, MSTATE as the mapper's mstate0, and IE, IF and the RAM arrays as RAM_INIT gives them (the choice lists bytes; one
it does not list is 0x00, log 2). State.reset is this state for the zeros that the model chose (log 1, log 2). -/
def Obligations.ResetValues : Prop :=
  (∀ (cfg : Config) (p : PowerOn) (image : List Byte) (s : State), s = resetState cfg p image →
    s.pc = 0x0100 ∧ s.sp = 0xFFFE ∧ s.mode = .running ∧ s.ime = false ∧ s.eiPending = false ∧ s.haltBug = false ∧
    s.cycles = 0 ∧ s.faultInfo = none ∧ s.cfg = cfg ∧
    s.a = p.a ∧ s.b = p.b ∧ s.c = p.c ∧ s.d = p.d ∧ s.e = p.e ∧ s.h = p.h ∧ s.l = p.l ∧
    flagZ s = p.f.getLsbD 7 ∧ flagN s = p.f.getLsbD 6 ∧ flagH s = p.f.getLsbD 5 ∧ flagC s = p.f.getLsbD 4 ∧
    s.f &&& 0x0F = 0 ∧ s.mstate = mapperStart cfg.mapper ∧ busRead s 0xFFFF = p.ie ∧ busRead s 0xFF0F = p.ifr ∧
    ∀ addr : Word, isRamKey addr.toNat = true → busRead s addr = (p.ram.lookup addr.toNat).getD 0x00) ∧
  State.reset = resetState Config.default PowerOn.zeros []

/-- The state after reset is a legal state. It rests on the model's reset choices (log 1, log 2). -/
def Obligations.ResetIsLegal : Prop := State.reset.Inv

/-- Every step keeps a legal state legal: F's low nibble 0 (R101), the memories in canonical form and within their arrays
(R130, R131), FAULT_INFO set exactly in FAULTED (R125), HALT_BUG only where R123 and R313 leave it, and no interrupt enable
without GK_ADMITTED. -/
def Obligations.EveryStepKeepsLegality : Prop :=
  ∀ s t : State, s.Inv → step s = .next t → t.Inv

/-! ### The step -/

/-- When the bytes at PC decode to an instruction that may run, a step is that instruction at that state, and then the EI
promotion and the cycle charge (R311, R312). -/
def Obligations.StepRunsTheFetchedInstruction : Prop :=
  ∀ (s t : State) (entry : Entry) (i : Instr) (rest : List Byte),
    Fetches s → Admitted s entry →
    decode [busRead s s.pc, busRead s (after 1 s), busRead s (after 1 s + 1)] = .ok (i, rest) →
    exec i s = .next t →
    step s = .next { t with
      ime := t.ime || (s.eiPending && t.eiPending)
      eiPending := t.eiPending && !s.eiPending
      cycles := t.cycles +
        costFor entry.cost (if busRead s s.pc = 0xCB then false else taken false (busRead s s.pc) s) }

/-- The default costs: taken and not taken for the conditional transfers, and the three costs of the CB table (R804, R902,
R905, R907, R909). -/
def Obligations.DefaultCosts : Prop :=
  (∀ (s : State) (k : Nat) (cc : Cond), [Cond.nz, .z, .nc, .c][k]? = some cc →
    ∀ x ∈ [(0x20, 12, 8), (0xC0, 20, 8), (0xC2, 16, 12), (0xC4, 24, 12)],
      costFor (standardMainCost (BitVec.ofNat 8 (x.1 + 8 * k))) (taken false (BitVec.ofNat 8 (x.1 + 8 * k)) s) =
        if condHolds cc s then x.2.1 else x.2.2) ∧
  (∀ code : Byte, standardCbCost code =
    if code.toNat % 8 = 6 then (if 0x40 ≤ code.toNat ∧ code.toNat ≤ 0x7F then .one 12 else .one 16) else .one 8)

/-- A step always answers a next state: no access faults and no other synchronous exception exists (R222, R1104). -/
def Obligations.NoStepStops : Prop := ∀ s : State, ∃ t, step s = .next t

/-- The ROM and the parameters never change (R130, R133). -/
def Obligations.RomAndParametersNeverChange : Prop :=
  ∀ s t : State, step s = .next t → t.rom = s.rom ∧ t.cfg = s.cfg

/-- What enters and leaves each mode: FAULTED is stuck, STOPPED idles, only HALT enters HALTED, only STOP enters STOPPED, and
whoever enters FAULTED keeps PC and has a fault record (R120, R1103, R1121). -/
def Obligations.OnlyTheseChangeTheMode : Prop :=
  ∀ s t : State, step s = .next t →
    (s.mode = .faulted → t = s) ∧
    (s.mode = .stopped → t = { s with cycles := s.cycles + 4 }) ∧
    (t.mode = .halted → (s.mode = .halted ∧ s.ie &&& s.ifr &&& 0x1F = 0) ∨ busRead s s.pc = 0x76) ∧
    (t.mode = .stopped → s.mode = .stopped ∨ busRead s s.pc = 0x10) ∧
    (s.mode ≠ .faulted → t.mode = .faulted → t.pc = s.pc ∧ t.faultInfo.isSome = true)

/-- HALTED: without a pending interrupt a step idles for 4 cycles; with one it does what a RUNNING step would do, 4 cycles
dearer unless it faults (R1120, R1222). -/
def Obligations.HaltedIdlesOrWakes : Prop :=
  ∀ s : State, s.mode = .halted →
    (s.ie &&& s.ifr &&& 0x1F = 0 → step s = .next { s with cycles := s.cycles + 4 }) ∧
    (s.ie &&& s.ifr &&& 0x1F ≠ 0 → ∃ t, step { s with mode := .running } = .next t ∧
      step s = .next (if t.mode = .faulted then t else { t with cycles := t.cycles + 4 }))

/-- STOPPED: every step idles for 4 cycles whatever is pending, and only the host's wake leaves it; the wake does nothing in
any other mode (R1121, R1141). -/
def Obligations.StoppedIdlesUntilTheWake : Prop :=
  ∀ s : State,
    (s.mode = .stopped → step s = .next { s with cycles := s.cycles + 4 } ∧ hostWake s = { s with mode := .running }) ∧
    (s.mode ≠ .stopped → hostWake s = s)

/-! ### Exceptions -/

/-- A decode fault is precise: the state before the fetch, but for MODE and the fault record; the machine then stays there,
and the host's wake does not leave it (R313, R1103). The code numbers are 1 and 2 (R1101). -/
def Obligations.DecodeFaultIsPrecise : Prop :=
  ∀ (s t : State) (code : FaultCode) (opcode : Byte) (prefixed : Bool),
    (s.mode = .running ∨ (s.mode = .halted ∧ s.ie &&& s.ifr &&& 0x1F ≠ 0)) →
    ¬Dispatches s →
    prefixed = decide (busRead s s.pc = 0xCB) →
    opcode = (if prefixed then busRead s (after 1 s) else busRead s s.pc) →
    (dispatchEntry s.cfg prefixed opcode = none ∧ code = .unimplementedInstruction ∨
      (∃ entry, dispatchEntry s.cfg prefixed opcode = some entry ∧ entry.gk = true ∧ s.cfg.gkAdmitted = false) ∧
        code = .notAdmitted) →
    t = { s with mode := .faulted, faultInfo := some ⟨code, s.pc, opcode, prefixed⟩ } →
    step s = .next t ∧ step t = .next t ∧ hostWake t = t ∧
      faultNumber code = (if dispatchEntry s.cfg prefixed opcode = none then 1 else 2)

/-- Each of the eleven illegal opcodes faults UNIMPLEMENTED_INSTRUCTION under either setting of GK_ADMITTED and whatever the
catalog lists, and these are the only holes of the default catalog (R315, R1006). -/
def Obligations.IllegalOpcodesFault : Prop :=
  (∀ s : State, ∀ x ∈ [((0xD3 : Byte), Instr.illegal_D3), (0xDB, .illegal_DB), (0xDD, .illegal_DD), (0xE3, .illegal_E3),
      (0xE4, .illegal_E4), (0xEB, .illegal_EB), (0xEC, .illegal_EC), (0xED, .illegal_ED), (0xF4, .illegal_F4),
      (0xFC, .illegal_FC), (0xFD, .illegal_FD)],
    ∃ t, t = { s with mode := .faulted, faultInfo := some ⟨.unimplementedInstruction, s.pc, x.1, false⟩ } ∧
      exec x.2 s = .next t ∧ (Fetches s → busRead s s.pc = x.1 → step s = .next t) ∧ step t = .next t) ∧
  (∀ (cfg : Config) (prefixed : Bool) (op : Byte), cfg.catalog = .standard → dispatchEntry cfg prefixed op = none →
    prefixed = false ∧ op ∈ [(0xD3 : Byte), 0xDB, 0xDD, 0xE3, 0xE4, 0xEB, 0xEC, 0xED, 0xF4, 0xFC, 0xFD])

/-- Without GK_ADMITTED an opcode that the catalog lists runs exactly when the source settles it; every other one, the whole CB
table among them, raises NOT_ADMITTED and changes nothing else (R12, R1102). That LD (HL),d8 (0x36) runs is the model's
choice between two places of the spec (log 30). -/
def Obligations.WithoutGkAdmittedOnlySourceOpcodesRun : Prop :=
  ∀ (s : State) (op : Byte), s.cfg.gkAdmitted = false → Fetches s → busRead s s.pc = op →
    (op ≠ 0xCB → dispatchEntry s.cfg false op ≠ none → SourceOpcode op → ∃ t, step s = .next t ∧ t.mode ≠ .faulted) ∧
    (op ≠ 0xCB → dispatchEntry s.cfg false op ≠ none → ¬SourceOpcode op →
      step s = .next { s with mode := .faulted, faultInfo := some ⟨.notAdmitted, s.pc, op, false⟩ }) ∧
    (op = 0xCB → dispatchEntry s.cfg true (busRead s (after 1 s)) ≠ none →
      step s = .next { s with mode := .faulted, faultInfo := some ⟨.notAdmitted, s.pc, busRead s (after 1 s), true⟩ })

/-- Interrupt dispatch in full: the flags it clears, the two pushes, the pending sources read between them, the vector, the IF
bit cleared and the 20 cycles (R1110). The fourth hypothesis leaves out the step right after an EI in a machine that is
set to follow R1004 there (log 27); EiTakesEffectAfterTheNextInstruction says that it fetches. -/
def Obligations.InterruptDispatch : Prop :=
  ∀ (s high low : State) (ret : Word) (p : Byte),
    s.mode = .running → s.ime = true → s.ie &&& s.ifr &&& 0x1F ≠ 0 →
    ¬(s.cfg.eiHoldsDispatch = true ∧ s.eiPending = true) →
    ret = (if s.haltBug = true then s.pc - 1 else s.pc) →
    high = busWrite { s with ime := false, eiPending := false, haltBug := false, sp := s.sp - 1 } (s.sp - 1) (hi ret) →
    p = high.ie &&& high.ifr &&& 0x1F →
    low = busWrite { high with sp := s.sp - 2 } (s.sp - 2) (lo ret) →
    (p = 0 → step s = .next { low with pc := 0x0000, cycles := s.cycles + 20 }) ∧
    (∀ k < 5, p.getLsbD k = true → (∀ j < k, p.getLsbD j = false) →
      step s = .next { low with
        pc := BitVec.ofNat 16 (0x0040 + 8 * k), ifr := low.ifr &&& (0xFF ^^^ (1#8 <<< k)), cycles := s.cycles + 20 })

/-- A dispatch whose pushes do not hit IE or IF goes to the vector of the lowest pending source, pushes the address of the next
instruction, and leaves every other register and every other byte but IF alone (R1108, R1109, R1111; log 27). -/
def Obligations.DispatchGoesToTheLowestPendingVector : Prop :=
  ∀ (s : State) (k : Nat),
    s.ram.wf → s.mode = .running → s.ime = true → s.haltBug = false →
    ¬(s.cfg.eiHoldsDispatch = true ∧ s.eiPending = true) →
    k < 5 → (s.ie &&& s.ifr).getLsbD k = true → (∀ j < k, (s.ie &&& s.ifr).getLsbD j = false) →
    s.sp - 1 ≠ 0xFFFF → s.sp - 1 ≠ 0xFF0F → s.sp - 2 ≠ 0xFF0F →
    ∃ t, step s = .next t ∧ t.pc = BitVec.ofNat 16 (0x0040 + 8 * k) ∧
      t.regs = { s.regs with sp := s.sp - 2 } ∧ t.haltBug = false ∧
      t.engine = { s.engine with ime := false, eiPending := false, cycles := s.cycles + 20 } ∧
      t.ifr = s.ifr &&& (0xFF ^^^ (1#8 <<< k)) ∧
      t.mstate = hook s.cfg (hook s.cfg s.mstate (s.sp - 1) (hi s.pc)) (s.sp - 2) (lo s.pc) ∧
      (Writable (s.sp - 1) → busRead t (s.sp - 1) = hi s.pc) ∧
      (Writable (s.sp - 2) → busRead t (s.sp - 2) = lo s.pc) ∧
      (∀ addr, addr ≠ 0xFF0F → ¬reachedBy s.cfg (s.sp - 1) addr → ¬reachedBy s.cfg (s.sp - 2) addr →
        busRead t addr = busRead s addr)

/-- EI takes effect after the instruction that follows it, DI cancels it, and no other instruction touches IME but RETI
(R121, R122, R1112, R1211). The step after an EI fetches, whatever IME was: nothing is dispatched between EI and the
instruction that follows it (R1004); in a machine set to follow R1004 also when the host changes IE or IF in between
(log 27). An EI that is itself the instruction after an EI is the third clause: there IME becomes 1 (R1004, R1112). -/
def Obligations.EiTakesEffectAfterTheNextInstruction : Prop :=
  ∀ (s t : State) (entry : Entry), Fetches s → Admitted s entry → step s = .next t →
    (busRead s s.pc = 0xF3 → t.ime = false ∧ t.eiPending = false) ∧
    (busRead s s.pc = 0xD9 → t.ime = true ∧ t.eiPending = false) ∧
    (s.eiPending = true → busRead s s.pc ≠ 0xF3 → t.ime = true ∧ t.eiPending = false) ∧
    (s.eiPending = false → busRead s s.pc = 0xFB → t.ime = s.ime ∧ t.eiPending = true ∧ Fetches t ∧
      (s.cfg.eiHoldsDispatch = true → ∀ ie ifr, Fetches { t with ie := ie, ifr := ifr })) ∧
    (s.eiPending = false → busRead s s.pc ≠ 0xF3 → busRead s s.pc ≠ 0xD9 → busRead s s.pc ≠ 0xFB →
      t.ime = s.ime ∧ t.eiPending = false)

/-! ### The address bus -/

/-- The storage regions and IE: a write is read back and reaches no other byte (R207, R209, R210, R211); UNUSABLE reads 0x00
and ignores writes (R210). -/
def Obligations.StorageRegions : Prop :=
  ∀ (s : State) (addr other : Word) (v : Byte), s.ram.wf →
    ((0x8000 ≤ addr.toNat ∧ addr.toNat ≤ 0xBFFF) ∨ (0xFE00 ≤ addr.toNat ∧ addr.toNat ≤ 0xFE9F) ∨ 0xFF00 ≤ addr.toNat →
      hostRead (hostWrite s addr v) addr = v ∧
      (other ≠ addr → hostRead (hostWrite s addr v) other = hostRead s other)) ∧
    (0xFEA0 ≤ addr.toNat ∧ addr.toNat ≤ 0xFEFF → hostRead s addr = 0x00 ∧ hostWrite s addr v = s)

/-- ECHO mirrors the first 0x1E00 bytes of WRAM, both ways (R208). -/
def Obligations.EchoMirrorsWram : Prop :=
  ∀ (s : State) (addr : Word) (v : Byte), s.ram.wf → 0xC000 ≤ addr.toNat → addr.toNat ≤ 0xDFFF →
    hostRead (hostWrite s addr v) addr = v ∧
    (addr.toNat ≤ 0xDDFF →
      hostRead s (addr + 0x2000) = hostRead s addr ∧
      hostRead (hostWrite s addr v) (addr + 0x2000) = v ∧
      hostWrite s (addr + 0x2000) v = hostWrite s addr v)

/-- A write below 0x8000 changes no state, but in 0x2000 to 0x3FFF MSTATE as the mapper says, which under NO_MAPPER is not at
all (R205, R206). -/
def Obligations.RomIgnoresWrites : Prop :=
  ∀ (s : State) (addr : Word) (v : Byte), addr.toNat ≤ 0x7FFF →
    (addr.toNat ≤ 0x1FFF ∨ 0x4000 ≤ addr.toNat → hostWrite s addr v = s) ∧
    (0x2000 ≤ addr.toNat ∧ addr.toNat ≤ 0x3FFF →
      hostWrite s addr v = { s with mstate := mapperWrite s.cfg.mapper s.mstate addr v }) ∧
    (s.cfg.mapper = .noMapper → hostWrite s addr v = s)

/-- What ROM reads: bank 0 below 0x4000, then the mapper's bank modulo ROM_CAPACITY, bank 1 under NO_MAPPER (R203, R204). -/
def Obligations.RomWindowShowsTheBank : Prop :=
  ∀ (s : State) (addr : Word),
    (addr.toNat ≤ 0x3FFF → busRead s addr = s.rom.read addr.toNat) ∧
    (0x4000 ≤ addr.toNat → addr.toNat ≤ 0x7FFF →
      busRead s addr =
        s.rom.read ((mapperBank s.cfg.mapper s.mstate * 0x4000 + (addr.toNat - 0x4000)) % s.cfg.romCapacity) ∧
      (s.cfg.mapper = .noMapper → mapperBank s.cfg.mapper s.mstate = 1))

/-! ### The host interface and initialization -/

/-- The interrupt request sets one bit of IF for k in 0 to 4 and is rejected for any other k (R1106). -/
def Obligations.RequestInterruptSetsOneBit : Prop :=
  ∀ (s : State) (k : Nat),
    (k ≤ 4 → ∃ t, requestInterrupt s k = some t ∧ t = { s with ifr := t.ifr } ∧
      t.ifr.getLsbD k = true ∧ ∀ j, j ≠ k → t.ifr.getLsbD j = s.ifr.getLsbD j) ∧
    (5 ≤ k → requestInterrupt s k = none)

/-- Writing a pair and reading it back: BC, DE and HL give the value, AF the value without its low nibble (R105). -/
def Obligations.PairWritesRoundTrip : Prop :=
  ∀ (s : State) (v : Word),
    get16 .bc (setReg s .bc v) = v ∧ get16 .de (setReg s .de v) = v ∧ get16 .hl (setReg s .hl v) = v ∧
    get16 .af (setReg s .af v) = v &&& 0xFFF0

/-- set_reg writes the register or pair it names and nothing else (R1144). F keeps its low nibble 0; an 8-bit register takes
the low byte of the value, which for a value above 0xFF is the model's choice (log 23). -/
def Obligations.SetRegWritesOneRegister : Prop :=
  ∀ (s : State) (v : Word), ∀ x ∈ [
      (RegName.a, { s.regs with a := lo v }), (.f, { s.regs with f := lo v &&& 0xF0 }), (.b, { s.regs with b := lo v }),
      (.c, { s.regs with c := lo v }), (.d, { s.regs with d := lo v }), (.e, { s.regs with e := lo v }),
      (.h, { s.regs with h := lo v }), (.l, { s.regs with l := lo v }), (.af, s.regs.put16 .af v), (.bc, s.regs.put16 .bc v),
      (.de, s.regs.put16 .de v), (.hl, s.regs.put16 .hl v), (.pc, s.regs), (.sp, { s.regs with sp := v })],
    (setReg s x.1 v).regs = x.2 ∧ (setReg s x.1 v).pc = (if x.1 = .pc then v else s.pc) ∧
      (setReg s x.1 v).haltBug = s.haltBug ∧ (setReg s x.1 v).engine = s.engine ∧ SameMemory s (setReg s x.1 v)

/-- Setting one flag changes that flag only: not the other three, and no other state (R102, R1144). F's low nibble is 0
afterwards, as R101 says of every write of F; where it was not 0 before, which no reachable state shows, this is the model's
reading (log 24). -/
def Obligations.SetFlagChangesOneFlag : Prop :=
  ∀ (s t : State) (flag : FlagName) (v : Bool), t = setFlag s flag v →
    t = { s with f := t.f } ∧ t.f &&& 0x0F = 0 ∧
    flagZ t = (if flag = .z then v else flagZ s) ∧ flagN t = (if flag = .n then v else flagN s) ∧
    flagH t = (if flag = .h then v else flagH s) ∧ flagC t = (if flag = .c then v else flagC s)

/-- The ROM load: the image's bytes up to ROM_CAPACITY, 0x00 after its end, nothing beyond ROM_CAPACITY, and where the two ROM
windows show them (R1201). -/
def Obligations.RomLoad : Prop :=
  ∀ (cfg : Config) (p : PowerOn) (image : List Byte) (s : State), s = resetState cfg p image →
    (∀ k < cfg.romCapacity, s.rom.read k = image.getD k 0x00) ∧
    (∀ x ∈ s.rom, x.1 < cfg.romCapacity) ∧
    (∀ addr : Word, addr.toNat ≤ 0x3FFF → busRead s addr = image.getD addr.toNat 0x00) ∧
    (∀ addr : Word, addr.toNat ≤ 0x7FFF → cfg.romCapacity = 0x8000 → cfg.mapper = .noMapper →
      busRead s addr = image.getD addr.toNat 0x00)

/-- A missing or ill-shaped catalog, and one with an entry that is looked at and does not pass the checks, gives a load error
and no machine; a row with a malformed key, or for a hole, changes neither the machine nor the error (R1202, R1145). What the
model chose in it: keys of either letter case (log 5), and length 1 and unchanged flags at 0xCB (log 26, log 28). -/
def Obligations.BadCatalogGivesNoMachine : Prop :=
  ∀ (gk : Bool) (banks : Nat) (mapper : Mapper) (hold : Bool) (p : PowerOn) (image : List Byte),
    (∀ input ∈ [CatalogInput.missing, .illShaped], ∃ err, initMachine gk banks mapper hold p input image = .error err) ∧
    (∀ (doc : CatalogDoc) (prefixed : Bool) (key : List Char) (e : CatalogEntry) (code : Byte),
      (key, e) ∈ docRows doc prefixed → LooksAt prefixed key code → ¬PassesChecks prefixed code e →
      ∃ err, initMachine gk banks mapper hold p (.document doc) image = .error err) ∧
    (∀ (before after other : List (List Char × CatalogEntry)) (key : List Char) (e : CatalogEntry),
      (keyByte key = none ∨ (∃ code ∈ holes, keyByte key = some code) →
        (initMachine gk banks mapper hold p (.document ⟨before ++ (key, e) :: after, other⟩) image).map Initialized.machine =
          (initMachine gk banks mapper hold p (.document ⟨before ++ after, other⟩) image).map Initialized.machine) ∧
      (keyByte key = none →
        (initMachine gk banks mapper hold p (.document ⟨other, before ++ (key, e) :: after⟩) image).map Initialized.machine =
          (initMachine gk banks mapper hold p (.document ⟨other, before ++ after⟩) image).map Initialized.machine))

/-- The default catalog loads without a warning, and so does every document whose looked-at entries pass the checks; the
machine is in its reset state for the parameters, and the warnings are the malformed keys (R1200, R1202, R1145). The model's
choices in what passes are log 5, log 26 and log 28. -/
def Obligations.CatalogThatPassesLoads : Prop :=
  ∀ (gk : Bool) (banks : Nat) (mapper : Mapper) (hold : Bool) (p : PowerOn) (image : List Byte),
    initMachine gk banks mapper hold p .standard image = .ok ⟨resetState ⟨gk, banks, mapper, .standard, hold⟩ p image, []⟩ ∧
    ∀ doc : CatalogDoc,
      (∀ (prefixed : Bool) (key : List Char) (e : CatalogEntry) (code : Byte),
        (key, e) ∈ docRows doc prefixed → LooksAt prefixed key code → PassesChecks prefixed code e) →
      ∃ main cb warnings, initMachine gk banks mapper hold p (.document doc) image =
          .ok ⟨resetState ⟨gk, banks, mapper, .supplied main cb, hold⟩ p image, warnings⟩ ∧
        ∀ key, key ∈ warnings ↔ keyByte key = none ∧ ∃ prefixed e, (key, e) ∈ docRows doc prefixed

/-- The dispatch tables of a loaded catalog: an opcode has an entry exactly when it is no hole and a row of the document names
it, and the entry has the row's cost and the opcode's gk mark (R1202, R1203). Which keys name an opcode, digits of either case
among them, and which of two rows counts is the model's choice (log 5). -/
def Obligations.DispatchTablesHoldTheListedOpcodes : Prop :=
  ∀ (gk : Bool) (banks : Nat) (mapper : Mapper) (hold : Bool) (p : PowerOn) (image : List Byte) (doc : CatalogDoc) (m : Initialized),
    initMachine gk banks mapper hold p (.document doc) image = .ok m →
    ∀ (prefixed : Bool) (code : Byte),
      ((dispatchEntry m.machine.cfg prefixed code).isSome = true ↔ ∃ x ∈ docRows doc prefixed, LooksAt prefixed x.1 code) ∧
      ∀ entry, dispatchEntry m.machine.cfg prefixed code = some entry →
        entry.gk = gkMarked prefixed code ∧
        ∃ x ∈ docRows doc prefixed, keyByte x.1 = some code ∧ GivesCost x.2 entry.cost

/-! ### 8-bit loads -/

/-- LD between 8-bit operands (R401, R402, R403): the destination gets the source's value, F and every other register are kept,
and memory changes only for (HL). -/
def Obligations.LoadRegisterOrMemory : Prop :=
  ∀ (s : State) (dst src : R8) (v : Byte),
    (src, v) ∈ [(R8.b, s.b), (.c, s.c), (.d, s.d), (.e, s.e), (.h, s.h), (.l, s.l),
      (.mHL, busRead s (cat s.h s.l)), (.a, s.a)] →
    ¬(dst = .mHL ∧ src = .mHL) →
    ∃ t, exec (ldBlock dst src) s = .next t ∧ Advances 1 s t ∧ t.regs = s.regs.put8 dst v ∧ ResultInMemory dst v s t

/-- LD r,d8 and LD (HL),d8 (R404, R405). -/
def Obligations.LoadImmediateByte : Prop :=
  ∀ (s : State) (dst : R8) (n : Byte),
    ∃ t, exec (ldImm8 dst n) s = .next t ∧ Advances 2 s t ∧ t.regs = s.regs.put8 dst n ∧ ResultInMemory dst n s t

/-- A loaded from memory: through BC, DE, HL with and without an adjustment, an absolute address and the high page (R406, R407,
R410, R411, R414, R416, R418). Each row: instruction, length, address, HL afterwards. -/
def Obligations.LoadAccumulatorFromMemory : Prop :=
  ∀ (s : State) (w : Word) (n : Byte), ∀ x ∈ [
      (Instr.ld_A_mBC, 1, cat s.b s.c, cat s.h s.l),
      (.ld_A_mDE, 1, cat s.d s.e, cat s.h s.l),
      (.ld_A_mHLi, 1, cat s.h s.l, cat s.h s.l + 1),
      (.ld_A_mHLd, 1, cat s.h s.l, cat s.h s.l - 1),
      (.ld_A_ma16 w, 3, w, cat s.h s.l),
      (.ldh_A_ma8 n, 2, BitVec.ofNat 16 (0xFF00 + n.toNat), cat s.h s.l),
      (.ld_A_mC, 1, BitVec.ofNat 16 (0xFF00 + s.c.toNat), cat s.h s.l)],
    ∃ t, exec x.1 s = .next t ∧ Advances x.2.1 s t ∧ SameMemory s t ∧
      t.regs = { s.regs with a := busRead s x.2.2.1, h := hi x.2.2.2, l := lo x.2.2.2 }

/-- A stored to memory, the same forms (R408, R409, R412, R413, R415, R417, R419). -/
def Obligations.StoreAccumulatorToMemory : Prop :=
  ∀ (s : State) (w : Word) (n : Byte), ∀ x ∈ [
      (Instr.ld_mBC_A, 1, cat s.b s.c, cat s.h s.l),
      (.ld_mDE_A, 1, cat s.d s.e, cat s.h s.l),
      (.ld_mHLi_A, 1, cat s.h s.l, cat s.h s.l + 1),
      (.ld_mHLd_A, 1, cat s.h s.l, cat s.h s.l - 1),
      (.ld_ma16_A w, 3, w, cat s.h s.l),
      (.ldh_ma8_A n, 2, BitVec.ofNat 16 (0xFF00 + n.toNat), cat s.h s.l),
      (.ld_mC_A, 1, BitVec.ofNat 16 (0xFF00 + s.c.toNat), cat s.h s.l)],
    ∃ t, exec x.1 s = .next t ∧ Advances x.2.1 s t ∧ StoresByte x.2.2.1 s.a s t ∧
      t.regs = { s.regs with h := hi x.2.2.2, l := lo x.2.2.2 }

/-! ### 8-bit arithmetic and logic -/

/-- ADD and ADC, register, (HL) and immediate forms (R500, R501, R502). Each row: instruction, length, second operand, carry in. -/
def Obligations.AddAndAddWithCarry : Prop :=
  ∀ (s : State) (r : R8) (d : Byte), ∀ x ∈ [
      (aluBlock .add r, 1, get8 r s, 0), (aluImm .add d, 2, d, 0),
      (aluBlock .adc r, 1, get8 r s, (flagC s).toNat), (aluImm .adc d, 2, d, (flagC s).toNat)],
    ∃ t, exec x.1 s = .next t ∧ Advances x.2.1 s t ∧ SameMemory s t ∧
      t.regs = { s.regs with a := BitVec.ofNat 8 (s.a.toNat + x.2.2.1.toNat + x.2.2.2), f := t.f } ∧
      FlagsAre t (t.a = 0) false (s.a.toNat % 16 + x.2.2.1.toNat % 16 + x.2.2.2 > 15)
        (s.a.toNat + x.2.2.1.toNat + x.2.2.2 > 255)

/-- SUB, SBC and CP, register, (HL) and immediate forms; CP leaves A as it was (R500, R503, R504, R508). -/
def Obligations.SubtractAndCompare : Prop :=
  ∀ (s : State) (r : R8) (d : Byte), ∀ x ∈ [
      (aluBlock .sub r, 1, get8 r s, 0, false), (aluImm .sub d, 2, d, 0, false),
      (aluBlock .sbc r, 1, get8 r s, (flagC s).toNat, false), (aluImm .sbc d, 2, d, (flagC s).toNat, false),
      (aluBlock .cp r, 1, get8 r s, 0, true), (aluImm .cp d, 2, d, 0, true)],
    ∃ t, exec x.1 s = .next t ∧ Advances x.2.1 s t ∧ SameMemory s t ∧
      t.regs = { s.regs with
        a := if x.2.2.2.2 then s.a else s.a - x.2.2.1 - BitVec.ofNat 8 x.2.2.2.1, f := t.f } ∧
      FlagsAre t (s.a - x.2.2.1 - BitVec.ofNat 8 x.2.2.2.1 = 0) true
        (s.a.toNat % 16 < x.2.2.1.toNat % 16 + x.2.2.2.1) (s.a.toNat < x.2.2.1.toNat + x.2.2.2.1)

/-- AND, XOR and OR, register, (HL) and immediate forms (R500, R505, R506, R507). -/
def Obligations.LogicalOperations : Prop :=
  ∀ (s : State) (r : R8) (d : Byte), ∀ x ∈ [
      (aluBlock .and r, 1, s.a &&& get8 r s, true), (aluImm .and d, 2, s.a &&& d, true),
      (aluBlock .xor r, 1, s.a ^^^ get8 r s, false), (aluImm .xor d, 2, s.a ^^^ d, false),
      (aluBlock .or r, 1, s.a ||| get8 r s, false), (aluImm .or d, 2, s.a ||| d, false)],
    ∃ t, exec x.1 s = .next t ∧ Advances x.2.1 s t ∧ SameMemory s t ∧
      t.regs = { s.regs with a := x.2.2.1, f := t.f } ∧ FlagsAre t (x.2.2.1 = 0) false x.2.2.2 false

/-- INC and DEC on an 8-bit operand; the carry flag is kept (R509, R510, R511, R512). -/
def Obligations.IncrementAndDecrementByte : Prop :=
  ∀ (s : State) (r : R8),
    (∃ t, exec (inc8Of r) s = .next t ∧ Advances 1 s t ∧ ResultInMemory r (get8 r s + 1) s t ∧
      t.regs = { s.regs.put8 r (get8 r s + 1) with f := t.f } ∧
      FlagsAre t (get8 r s + 1 = 0) false ((get8 r s).toNat % 16 + 1 > 15) (flagC s)) ∧
    (∃ t, exec (dec8Of r) s = .next t ∧ Advances 1 s t ∧ ResultInMemory r (get8 r s - 1) s t ∧
      t.regs = { s.regs.put8 r (get8 r s - 1) with f := t.f } ∧
      FlagsAre t (get8 r s - 1 = 0) true ((get8 r s).toNat % 16 = 0) (flagC s))

/-- DAA (R513): after an addition the two tests add 0x60 and 0x06, after a subtraction they subtract them. -/
def Obligations.DecimalAdjust : Prop :=
  ∀ s : State, ∃ t, exec .daa s = .next t ∧ Advances 1 s t ∧ SameMemory s t ∧
    t.regs = { s.regs with a := t.a, f := t.f } ∧
    (flagN s = false →
      t.a = s.a + (if flagC s = true ∨ s.a.toNat > 0x99 then 0x60 else 0) +
        (if flagH s = true ∨ s.a.toNat % 16 > 9 then 0x06 else 0) ∧
      FlagsAre t (t.a = 0) false false (flagC s = true ∨ s.a.toNat > 0x99)) ∧
    (flagN s = true →
      t.a = s.a - (if flagC s = true then 0x60 else 0) - (if flagH s = true then 0x06 else 0) ∧
      FlagsAre t (t.a = 0) true false (flagC s))

/-- CPL, SCF and CCF (R514, R515, R516). -/
def Obligations.ComplementAndCarryFlag : Prop :=
  ∀ s : State, ∀ x ∈ [
      (Instr.cpl, 0xFF - s.a, true, true, flagC s), (.scf, s.a, false, false, true), (.ccf, s.a, false, false, !flagC s)],
    ∃ t, exec x.1 s = .next t ∧ Advances 1 s t ∧ SameMemory s t ∧
      t.regs = { s.regs with a := x.2.1, f := t.f } ∧ FlagsAre t (flagZ s) x.2.2.1 x.2.2.2.1 x.2.2.2.2

/-! ### 16-bit loads, the stack and 16-bit arithmetic -/

/-- LD rr,d16 and LD SP,HL (R601, R603). -/
def Obligations.LoadPair : Prop :=
  ∀ (s : State) (w : Word), ∀ x ∈ [
      (Instr.ld_BC_d16 w, 3, s.regs.put16 .bc w), (.ld_DE_d16 w, 3, s.regs.put16 .de w),
      (.ld_HL_d16 w, 3, s.regs.put16 .hl w), (.ld_SP_d16 w, 3, { s.regs with sp := w }),
      (.ld_SP_HL, 1, { s.regs with sp := cat s.h s.l })],
    ∃ t, exec x.1 s = .next t ∧ Advances x.2.1 s t ∧ SameMemory s t ∧ t.regs = x.2.2

/-- LD (a16),SP: the low byte first, at a16, then the high byte at a16 + 1 (R602, R215). -/
def Obligations.StoreStackPointer : Prop :=
  ∀ (s : State) (w : Word), ∃ t, exec (.ld_ma16_SP w) s = .next t ∧ Advances 3 s t ∧ t.regs = s.regs ∧
    StoresTwo w (lo s.sp) (w + 1) (hi s.sp) s t

/-- LD HL,SP+e8 and ADD SP,e8: a signed displacement, with the flags of the unsigned addition of the low bytes (R604, R703,
R704). -/
def Obligations.StackPointerPlusDisplacement : Prop :=
  ∀ (s : State) (e : Byte), ∀ x ∈ [(Instr.ld_HL_SPe8 e, Reg16.hl), (.add_SP_e8 e, .sp)],
    ∃ t, exec x.1 s = .next t ∧ Advances 2 s t ∧ SameMemory s t ∧
      t.regs = { s.regs.put16 x.2 (BitVec.ofInt 16 (s.sp.toNat + e.toInt)) with f := t.f } ∧
      FlagsAre t false false (s.sp.toNat % 16 + e.toNat % 16 > 15) (s.sp.toNat % 256 + e.toNat > 255)

/-- PUSH: the high byte first, at SP - 1, then the low byte at SP - 2 (R600, R605). -/
def Obligations.PushPair : Prop :=
  ∀ s : State, ∀ x ∈ [(Instr.push_BC, s.b, s.c), (.push_DE, s.d, s.e), (.push_HL, s.h, s.l), (.push_AF, s.a, s.f)],
    ∃ t, exec x.1 s = .next t ∧ Advances 1 s t ∧ t.regs = { s.regs with sp := s.sp - 2 } ∧
      StoresTwo (s.sp - 1) x.2.1 (s.sp - 2) x.2.2 s t

/-- POP: the low byte from SP, the high byte from SP + 1; F's low nibble stays 0 (R600, R606, R607). -/
def Obligations.PopPair : Prop :=
  ∀ (s : State) (h l : Byte), h = busRead s (s.sp + 1) → l = busRead s s.sp →
    ∀ x ∈ [(Instr.pop_BC, { s.regs with b := h, c := l, sp := s.sp + 2 }),
        (.pop_DE, { s.regs with d := h, e := l, sp := s.sp + 2 }), (.pop_HL, { s.regs with h := h, l := l, sp := s.sp + 2 }),
        (.pop_AF, { s.regs with a := h, f := l &&& 0xF0, sp := s.sp + 2 })],
      ∃ t, exec x.1 s = .next t ∧ Advances 1 s t ∧ SameMemory s t ∧ t.regs = x.2

/-- ADD HL,rr: carries out of bits 11 and 15, Z kept (R700). -/
def Obligations.AddToHl : Prop :=
  ∀ s : State, ∀ x ∈ [(Instr.add_HL_BC, cat s.b s.c), (.add_HL_DE, cat s.d s.e), (.add_HL_HL, cat s.h s.l), (.add_HL_SP, s.sp)],
    ∃ t, exec x.1 s = .next t ∧ Advances 1 s t ∧ SameMemory s t ∧
      t.regs = { s.regs.put16 .hl (cat s.h s.l + x.2) with f := t.f } ∧
      FlagsAre t (flagZ s) false ((cat s.h s.l).toNat % 0x1000 + x.2.toNat % 0x1000 > 0x0FFF)
        ((cat s.h s.l).toNat + x.2.toNat > 0xFFFF)

/-- INC rr and DEC rr write no flag (R701, R702). -/
def Obligations.IncrementAndDecrementPair : Prop :=
  ∀ s : State, ∀ x ∈ [
      (Instr.inc_BC, Reg16.bc, cat s.b s.c + 1), (.inc_DE, .de, cat s.d s.e + 1), (.inc_HL, .hl, cat s.h s.l + 1),
      (.inc_SP, .sp, s.sp + 1), (.dec_BC, .bc, cat s.b s.c - 1), (.dec_DE, .de, cat s.d s.e - 1),
      (.dec_HL, .hl, cat s.h s.l - 1), (.dec_SP, .sp, s.sp - 1)],
    ∃ t, exec x.1 s = .next t ∧ Advances 1 s t ∧ SameMemory s t ∧ t.regs = s.regs.put16 x.2.1 x.2.2

/-! ### Rotates, shifts and bits -/

/-- RLCA, RRCA, RLA and RRA: Z is always 0 (R800, R801, R802, R803). -/
def Obligations.RotateAccumulator : Prop :=
  ∀ s : State, ∀ x ∈ [(Instr.rlca, RotOp.rlc), (.rrca, .rrc), (.rla, .rl), (.rra, .rr)],
    ∃ t, exec x.1 s = .next t ∧ Advances 1 s t ∧ SameMemory s t ∧ t.regs = { s.regs with a := t.a, f := t.f } ∧
      (∀ k < 8, t.a.getLsbD k = movedBit x.2 s.a (flagC s) k) ∧ FlagsAre t false false false (outBit x.2 s.a)

/-- The CB rotates and shifts, SWAP among them, on every operand (R805 to R812). -/
def Obligations.RotateAndShiftOperand : Prop :=
  ∀ (s : State) (op : RotOp) (r : R8), ∃ t v, exec (rotBlock op r) s = .next t ∧ Advances 2 s t ∧
    (∀ k < 8, v.getLsbD k = movedBit op (get8 r s) (flagC s) k) ∧
    ResultInMemory r v s t ∧ t.regs = { s.regs.put8 r v with f := t.f } ∧
    FlagsAre t (v = 0) false false (outBit op (get8 r s))

/-- BIT b,s writes Z, N and Hf and nothing else (R813). -/
def Obligations.TestBit : Prop :=
  ∀ (s : State) (b : Nat) (r : R8), b < 8 → ∃ t, exec (bitBlock b r) s = .next t ∧ Advances 2 s t ∧ SameMemory s t ∧
    t.regs = { s.regs with f := t.f } ∧ FlagsAre t (!(get8 r s).getLsbD b) false true (flagC s)

/-- RES b,s and SET b,s change one bit of the operand and no flag (R814, R815). -/
def Obligations.ClearAndSetBit : Prop :=
  ∀ (s : State) (b : Nat) (r : R8), b < 8 → ∀ x ∈ [(resBlock b r, false), (setBlock b r, true)],
    ∃ t v, exec x.1 s = .next t ∧ Advances 2 s t ∧
      (∀ k < 8, v.getLsbD k = if k = b then x.2 else (get8 r s).getLsbD k) ∧
      ResultInMemory r v s t ∧ t.regs = s.regs.put8 r v

/-! ### Control transfer -/

/-- JP a16, JP HL, JR e8 and the conditional forms (R900 to R905). Each row: instruction, where it goes. -/
def Obligations.Jumps : Prop :=
  ∀ (s : State) (w : Word) (e : Byte), ∀ x ∈ [
      (Instr.jp_a16 w, w), (.jp_HL, cat s.h s.l),
      (.jp_NZ_a16 w, if flagZ s = false then w else after 3 s), (.jp_Z_a16 w, if flagZ s = true then w else after 3 s),
      (.jp_NC_a16 w, if flagC s = false then w else after 3 s), (.jp_C_a16 w, if flagC s = true then w else after 3 s),
      (.jr_e8 e, BitVec.ofInt 16 ((after 2 s).toNat + e.toInt)),
      (.jr_NZ_e8 e, BitVec.ofInt 16 ((after 2 s).toNat + if flagZ s = false then e.toInt else 0)),
      (.jr_Z_e8 e, BitVec.ofInt 16 ((after 2 s).toNat + if flagZ s = true then e.toInt else 0)),
      (.jr_NC_e8 e, BitVec.ofInt 16 ((after 2 s).toNat + if flagC s = false then e.toInt else 0)),
      (.jr_C_e8 e, BitVec.ofInt 16 ((after 2 s).toNat + if flagC s = true then e.toInt else 0))],
    ∃ t, exec x.1 s = .next t ∧ GoesTo x.2 s t ∧ SameMemory s t ∧ t.regs = s.regs

/-- CALL, CALL cc and RST: the address after the instruction is pushed; a call that is not taken touches neither SP nor memory
(R906, R907, R911). Each row: instruction, length, target, taken. -/
def Obligations.CallsAndRestarts : Prop :=
  ∀ (s : State) (w : Word), ∀ x ∈ [
      (Instr.call_a16 w, 3, w, true), (.call_NZ_a16 w, 3, w, !flagZ s), (.call_Z_a16 w, 3, w, flagZ s),
      (.call_NC_a16 w, 3, w, !flagC s), (.call_C_a16 w, 3, w, flagC s),
      (.rst_00, 1, 0x0000, true), (.rst_08, 1, 0x0008, true), (.rst_10, 1, 0x0010, true), (.rst_18, 1, 0x0018, true),
      (.rst_20, 1, 0x0020, true), (.rst_28, 1, 0x0028, true), (.rst_30, 1, 0x0030, true), (.rst_38, 1, 0x0038, true)],
    ∃ t, exec x.1 s = .next t ∧
      (x.2.2.2 = true → GoesTo x.2.2.1 s t ∧ t.regs = { s.regs with sp := s.sp - 2 } ∧
        StoresTwo (s.sp - 1) (hi (after x.2.1 s)) (s.sp - 2) (lo (after x.2.1 s)) s t) ∧
      (x.2.2.2 = false → Advances x.2.1 s t ∧ t.regs = s.regs ∧ SameMemory s t)

/-- RET, RET cc and RETI: PC is popped, RETI also sets IME at once and cancels a pending EI (R908, R909, R910). -/
def Obligations.Returns : Prop :=
  ∀ (s : State) (target : Word), target = cat (busRead s (s.sp + 1)) (busRead s s.sp) →
    (∀ x ∈ [(Instr.ret, true), (.ret_NZ, !flagZ s), (.ret_Z, flagZ s), (.ret_NC, !flagC s), (.ret_C, flagC s)],
      ∃ t, exec x.1 s = .next t ∧ SameMemory s t ∧
        (x.2 = true → GoesTo target s t ∧ t.regs = { s.regs with sp := s.sp + 2 }) ∧
        (x.2 = false → Advances 1 s t ∧ t.regs = s.regs)) ∧
    (∃ t, exec .reti s = .next t ∧ SameMemory s t ∧ t.pc = target ∧ t.haltBug = false ∧
      t.regs = { s.regs with sp := s.sp + 2 } ∧ t.engine = { s.engine with ime := true, eiPending := false })

/-! ### System instructions -/

/-- NOP, STOP, DI and EI: PC advances, no register or byte of memory changes, and of the engine state only what each one names
(R1000, R1002, R1003, R1004). -/
def Obligations.NopStopDiEi : Prop :=
  ∀ (s : State) (b : Byte), ∀ x ∈ [
      (Instr.nop, 1, s.engine), (.stop b, 2, { s.engine with mode := .stopped }),
      (.di, 1, { s.engine with ime := false, eiPending := false }), (.ei, 1, { s.engine with eiPending := true })],
    ∃ t, exec x.1 s = .next t ∧ t.pc = after x.2.1 s ∧ t.haltBug = false ∧ t.engine = x.2.2 ∧ t.regs = s.regs ∧ SameMemory s t

/-- HALT always enters HALTED, and arms the HALT bug when an interrupt is pending with IME = 0 (R1001). -/
def Obligations.HaltEntersHalted : Prop :=
  ∀ s : State, ∃ t, exec .halt s = .next t ∧ t.pc = after 1 s ∧ t.engine = { s.engine with mode := .halted } ∧
    (t.haltBug = true ↔ s.cfg.gkAdmitted = true ∧ s.ime = false ∧ s.ie &&& s.ifr &&& 0x1F ≠ 0) ∧
    t.regs = s.regs ∧ SameMemory s t

/-- The prefix byte by itself runs the CB instruction of the byte after it (R1005; the row is the model's constructor, log 11). -/
def Obligations.PrefixRunsThePrefixedInstruction : Prop :=
  ∀ s : State, ∃ t, exec .prefix_CB s = .next t ∧ exec (decodeBytes 0xCB (busRead s (after 1 s)) 0) s = .next t

end
end

