-- ==== Sys2Proof/Laws/Catalog.lean ====
section
/-!
SUPPORT. The load of a catalog (70_reset_and_hazards.md R1202): what one entry, one map and one document can answer, so that
no later proof unfolds the loader.
-/

namespace Sys2Proof.Machine

theorem entryCost_eq_some {prefixed : Bool} {code : Byte} {e : CatalogEntry} {t : Cost}
    (h : entryCost prefixed code e.cycles = some t) : GivesCost e t := by
  unfold entryCost at h
  split at h
  · next hc => cases h; exact hc
  · next hc =>
    split at h
    · cases h; exact hc
    · cases h
  · cases h

/-- One entry: it gives a row exactly when it passes the checks, and then its own cost (R1202 b, c, d). -/
theorem loadEntry_ok_iff (prefixed : Bool) (code : Byte) (e : CatalogEntry) :
    (∃ row, loadEntry prefixed code e = .ok row) ↔ PassesChecks prefixed code e := by
  unfold loadEntry
  constructor
  · rintro ⟨row, h⟩
    split at h
    · cases h
    · next hl =>
      refine ⟨Decidable.not_not.mp hl, ?_, fun m hm => ?_⟩
      · cases hc : e.cycles with
        | number t => exact .inl ⟨t, rfl⟩
        | pair t n =>
          refine .inr ⟨t, n, rfl, ?_⟩
          cases hk : conditionOf prefixed code with
          | some cc => exact ⟨cc, rfl⟩
          | none => simp [hc, entryCost, hk] at h
        | other => simp [hc, entryCost] at h
      · split at h
        · cases h
        · rw [hm] at h
          by_cases hf : m = flagsLine prefixed code
          · exact hf
          · simp [hf] at h
  · rintro ⟨hl, hc, hf⟩
    have hcost : ∃ t, entryCost prefixed code e.cycles = some t := by
      rcases hc with ⟨t, ht⟩ | ⟨t, n, ht, cc, hcc⟩
      · exact ⟨.one t, by rw [ht]; rfl⟩
      · exact ⟨.pair t n, by rw [ht]; simp [entryCost, hcc]⟩
    obtain ⟨t, ht⟩ := hcost
    rw [if_neg (fun hn => hn hl), ht]
    cases hm : e.flags with
    | none => exact ⟨_, rfl⟩
    | some m => exact ⟨_, if_pos (hf m hm)⟩

theorem loadEntry_row {prefixed : Bool} {code : Byte} {e : CatalogEntry} {row : Byte × Cost}
    (h : loadEntry prefixed code e = .ok row) : row.1 = code ∧ GivesCost e row.2 := by
  unfold loadEntry at h
  split at h
  · cases h
  · split at h
    · cases h
    · next t ht =>
      have hc := entryCost_eq_some ht
      split at h
      · cases h; exact ⟨rfl, hc⟩
      · split at h
        · cases h; exact ⟨rfl, hc⟩
        · cases h

/-- A row that the load does not look at: its key is malformed or names a hole (R1202 e, f). -/
theorem loadMap_cons_skipped {prefixed : Bool} {key : List Char} (h : ∀ code, ¬LooksAt prefixed key code) (e : CatalogEntry)
    (rest : List (List Char × CatalogEntry)) :
    loadMap prefixed ((key, e) :: rest) =
      (loadMap prefixed rest).map fun r => (r.1, if keyByte key = none then key :: r.2 else r.2) := by
  rw [loadMap]
  cases loadMap prefixed rest with
  | error err => rfl
  | ok r =>
    cases hk : keyByte key with
    | none => simp [Except.map]
    | some code =>
      have : prefixed = false ∧ code ∈ holes := by
        exact Decidable.byContradiction fun hh => h code ⟨hk, hh⟩
      simp [Except.map, this]

/-- A row that the load looks at (R1202 b, c, d). -/
theorem loadMap_cons_lookedAt {prefixed : Bool} {key : List Char} {code : Byte} (h : LooksAt prefixed key code)
    (e : CatalogEntry) (rest : List (List Char × CatalogEntry)) :
    loadMap prefixed ((key, e) :: rest) =
      (loadMap prefixed rest).bind fun r => (loadEntry prefixed code e).map fun row => (row :: r.1, r.2) := by
  rw [loadMap]
  cases loadMap prefixed rest with
  | error err => rfl
  | ok r =>
    simp only [h.1, if_neg h.2, Except.bind]
    cases loadEntry prefixed code e <;> rfl

theorem lookedAt_or_skipped (prefixed : Bool) (key : List Char) :
    (∃ code, LooksAt prefixed key code) ∨ ∀ code, ¬LooksAt prefixed key code := by
  by_cases h : ∃ code, LooksAt prefixed key code
  · exact .inl h
  · exact .inr fun code hc => h ⟨code, hc⟩

theorem LooksAt.unique {prefixed : Bool} {key : List Char} {c d : Byte} (hc : LooksAt prefixed key c)
    (hd : LooksAt prefixed key d) : c = d := Option.some.inj (hc.1.symm.trans hd.1)

/-- One map loads exactly when every row that is looked at passes the checks. -/
theorem loadMap_ok_iff (prefixed : Bool) (rows : List (List Char × CatalogEntry)) :
    (∃ r, loadMap prefixed rows = .ok r) ↔
      ∀ x ∈ rows, ∀ code, LooksAt prefixed x.1 code → PassesChecks prefixed code x.2 := by
  induction rows with
  | nil => exact ⟨fun _ x hx => absurd hx List.not_mem_nil, fun _ => ⟨_, rfl⟩⟩
  | cons x rest ih =>
    obtain ⟨key, e⟩ := x
    rw [List.forall_mem_cons, ← ih]
    rcases lookedAt_or_skipped prefixed key with ⟨code, hc⟩ | hs
    · rw [loadMap_cons_lookedAt hc]
      have hchecks : (∀ d, LooksAt prefixed key d → PassesChecks prefixed d e) ↔ PassesChecks prefixed code e :=
        ⟨fun h => h code hc, fun h d hd => hc.unique hd ▸ h⟩
      rw [hchecks, ← loadEntry_ok_iff]
      cases loadMap prefixed rest <;> cases loadEntry prefixed code e <;> simp [Except.bind, Except.map]
    · rw [loadMap_cons_skipped hs]
      have : ∀ d, LooksAt prefixed key d → PassesChecks prefixed d e := fun d hd => absurd hd (hs d)
      cases loadMap prefixed rest <;> simp [Except.map]
      exact this

/-- What a map that loads holds: an opcode has a cost exactly when a looked-at row names it, and then the cost of such a row;
the warnings are the malformed keys. -/
theorem loadMap_ok {prefixed : Bool} {rows : List (List Char × CatalogEntry)} {costs : List (Byte × Cost)}
    {warnings : List (List Char)} (h : loadMap prefixed rows = .ok (costs, warnings)) :
    (∀ code, (lookupCost costs code).isSome = true ↔ ∃ x ∈ rows, LooksAt prefixed x.1 code) ∧
    (∀ code t, lookupCost costs code = some t → ∃ x ∈ rows, keyByte x.1 = some code ∧ GivesCost x.2 t) ∧
    (∀ key, key ∈ warnings ↔ keyByte key = none ∧ ∃ e, (key, e) ∈ rows) := by
  induction rows generalizing costs warnings with
  | nil => cases h; simp [lookupCost]
  | cons x rest ih =>
    obtain ⟨key, e⟩ := x
    rcases lookedAt_or_skipped prefixed key with ⟨code, hc⟩ | hs
    · rw [loadMap_cons_lookedAt hc] at h
      cases hr : loadMap prefixed rest with
      | error err => rw [hr] at h; cases h
      | ok r =>
        cases he : loadEntry prefixed code e with
        | error err => rw [hr, he] at h; cases h
        | ok row =>
          rw [hr, he] at h
          cases h
          obtain ⟨h1, h2, h3⟩ := ih hr
          obtain ⟨hrow, hcost⟩ := loadEntry_row he
          obtain ⟨k, t⟩ := row
          simp only at hrow hcost
          subst hrow
          refine ⟨fun d => ?_, fun d u hu => ?_, fun key' => ?_⟩
          · by_cases hd : k = d
            · subst hd
              simp only [lookupCost, if_true, Option.isSome_some, true_iff]
              exact ⟨(key, e), List.mem_cons_self, hc⟩
            · have : ¬LooksAt prefixed key d := fun hx => hd (hc.unique hx)
              simp [lookupCost, if_neg hd, h1 d, this]
          · by_cases hd : k = d
            · subst hd
              simp only [lookupCost, if_true, Option.some.injEq] at hu
              subst hu
              exact ⟨(key, e), List.mem_cons_self, hc.1, hcost⟩
            · simp only [lookupCost, if_neg hd] at hu
              obtain ⟨x, hx, hh⟩ := h2 d u hu
              exact ⟨x, List.mem_cons_of_mem _ hx, hh⟩
          · rw [h3 key']
            refine and_congr_right fun hn => ?_
            have : key' ≠ key := fun hk => by subst hk; rw [hc.1] at hn; cases hn
            simp [this]
    · rw [loadMap_cons_skipped hs] at h
      cases hr : loadMap prefixed rest with
      | error err => rw [hr] at h; cases h
      | ok r =>
        rw [hr] at h
        cases h
        obtain ⟨h1, h2, h3⟩ := ih hr
        refine ⟨fun d => ?_, fun d u hu => ?_, fun key' => ?_⟩
        · simp [h1 d, hs d]
        · obtain ⟨x, hx, hh⟩ := h2 d u hu
          exact ⟨x, List.mem_cons_of_mem _ hx, hh⟩
        · by_cases hn : keyByte key = none
          · rw [if_pos hn, List.mem_cons, h3 key']
            constructor
            · rintro (rfl | ⟨hk, e', he'⟩)
              · exact ⟨hn, e, List.mem_cons_self⟩
              · exact ⟨hk, e', List.mem_cons_of_mem _ he'⟩
            · rintro ⟨hk, e', he'⟩
              rcases List.mem_cons.mp he' with hx | hx
              · cases hx; exact .inl rfl
              · exact .inr ⟨hk, e', hx⟩
          · rw [if_neg hn, h3 key']
            refine and_congr_right fun hk => ?_
            have : key' ≠ key := fun hh => hn (hh ▸ hk)
            simp [this]

/-- A row that is not looked at leaves the costs of its map, and its error, as they are without it. -/
theorem loadMap_skip {prefixed : Bool} {key : List Char} (h : ∀ code, ¬LooksAt prefixed key code) (e : CatalogEntry)
    (before after : List (List Char × CatalogEntry)) :
    (loadMap prefixed (before ++ (key, e) :: after)).map Prod.fst = (loadMap prefixed (before ++ after)).map Prod.fst := by
  induction before with
  | nil =>
    rw [List.nil_append, List.nil_append, loadMap_cons_skipped h]
    cases loadMap prefixed after <;> rfl
  | cons x before ih =>
    obtain ⟨key', e'⟩ := x
    rw [List.cons_append, List.cons_append]
    rcases lookedAt_or_skipped prefixed key' with ⟨code, hc⟩ | hs
    · rw [loadMap_cons_lookedAt hc, loadMap_cons_lookedAt hc]
      revert ih
      cases loadMap prefixed (before ++ (key, e) :: after) <;> cases loadMap prefixed (before ++ after) <;>
        cases loadEntry prefixed code e' <;> simp [Except.bind, Except.map]
    · rw [loadMap_cons_skipped hs, loadMap_cons_skipped hs]
      revert ih
      cases loadMap prefixed (before ++ (key, e) :: after) <;> cases loadMap prefixed (before ++ after) <;>
        simp [Except.map]

/-- What initialization answers to a document: a machine exactly when both maps load. -/
theorem initMachine_document (gk : Bool) (banks : Nat) (mapper : Mapper) (hold : Bool) (p : PowerOn) (image : List Byte)
    (doc : CatalogDoc) :
    initMachine gk banks mapper hold p (.document doc) image =
      (loadMap false doc.unprefixed).bind fun r => (loadMap true doc.cbprefixed).map fun q =>
        ⟨resetState ⟨gk, banks, mapper, .supplied r.1 q.1, hold⟩ p image, r.2 ++ q.2⟩ := by
  simp only [initMachine, loadCatalog]
  cases loadMap false doc.unprefixed with
  | error err => simp [Except.bind]
  | ok r => cases loadMap true doc.cbprefixed <;> simp [Except.bind, Except.map]

end Sys2Proof.Machine
end

