-- ==== Sys2Proof/Laws/Memory.lean ====
section
/-!
SUPPORT. The laws of stored bytes: reading after writing, the canonical form kept by every operation, and the byte-order
helpers.
-/

namespace Sys2Proof.Machine

/-! ### Byte order -/

theorem cat_toNat (h l : Byte) : (cat h l).toNat = h.toNat * 256 + l.toNat := by
  show (h ++ l : BitVec (8 + 8)).toNat = _
  rw [BitVec.toNat_append, ← Nat.shiftLeft_add_eq_or_of_lt l.isLt, Nat.shiftLeft_eq]

theorem hi_toNat (w : Word) : (hi w).toNat = w.toNat / 256 := by
  have := w.isLt
  simp only [hi, BitVec.extractLsb'_toNat, Nat.shiftRight_eq_div_pow]
  omega

theorem lo_toNat (w : Word) : (lo w).toNat = w.toNat % 256 := by
  simp only [lo, BitVec.extractLsb'_toNat, Nat.shiftRight_eq_div_pow]
  omega

@[simp] theorem hi_cat (h l : Byte) : hi (cat h l) = h := by
  apply BitVec.eq_of_toNat_eq
  have := l.isLt
  rw [hi_toNat, cat_toNat]
  omega

@[simp] theorem lo_cat (h l : Byte) : lo (cat h l) = l := by
  apply BitVec.eq_of_toNat_eq
  have := l.isLt
  rw [lo_toNat, cat_toNat]
  omega

@[simp] theorem cat_hi_lo (w : Word) : cat (hi w) (lo w) = w := by
  apply BitVec.eq_of_toNat_eq
  rw [cat_toNat, hi_toNat, lo_toNat]
  omega

/-! ### Reading and writing -/

theorem Memory.read_write_same {m : Memory} (hm : m.wf) (key : Nat) (v : Byte) : (m.write key v).read key = v := by
  induction m with
  | nil => by_cases hv : v = Memory.unlisted <;> simp [Memory.write, Memory.read, hv]
  | cons x m ih =>
    obtain ⟨k, u⟩ := x
    obtain ⟨hp, hv⟩ := hm
    have hm' : Memory.wf m := ⟨hp.of_cons, fun x hx => hv x (List.mem_cons_of_mem _ hx)⟩
    have habove : ∀ x ∈ m, k < x.1 := fun x hx => List.rel_of_pairwise_cons hp hx
    have hnone : ∀ (q : Memory), (∀ x ∈ q, key ≠ x.1) → Memory.read q key = Memory.unlisted := by
      intro q
      induction q with
      | nil => intro _; rfl
      | cons y q ihq =>
        intro hq
        have h1 := hq y (by simp)
        simp [Memory.read, Ne.symm h1, ihq (fun x hx => hq x (by simp [hx]))]
    unfold Memory.write
    by_cases h1 : k < key
    · have : k ≠ key := by omega
      simp [h1, Memory.read, this, ih hm']
    · by_cases h2 : k = key
      · by_cases h3 : v = Memory.unlisted
        · subst h2
          simp only [Nat.lt_irrefl, if_false, if_true, h3]
          exact hnone m (fun x hx => by have := habove x hx; omega)
        · simp [h2, h3, Memory.read]
      · by_cases h3 : v = Memory.unlisted
        · simp only [h1, h2, h3, if_false, if_true]
          apply hnone
          intro x hx
          rcases List.mem_cons.mp hx with rfl | hx
          · exact fun h => h2 h.symm
          · have := habove x hx; omega
        · simp [h1, h2, h3, Memory.read]

theorem Memory.read_write_other (m : Memory) {key other : Nat} (v : Byte) (h : key ≠ other) :
    (m.write key v).read other = m.read other := by
  induction m with
  | nil => by_cases hv : v = Memory.unlisted <;> simp [Memory.write, Memory.read, hv, h]
  | cons x m ih =>
    obtain ⟨k, u⟩ := x
    unfold Memory.write
    by_cases h1 : k < key
    · simp [h1, Memory.read, ih]
    · by_cases h2 : k = key
      · subst h2; by_cases h3 : v = Memory.unlisted <;> simp [h3, Memory.read, h]
      · by_cases h3 : v = Memory.unlisted <;> simp [h1, h2, h3, Memory.read, h]

/-- A cell of the memory after a write is an old cell or the written one. -/
theorem Memory.mem_write {m : Memory} {key : Nat} {v : Byte} {x : Host.Cell} (hx : x ∈ m.write key v) :
    x ∈ m ∨ (x = (key, v) ∧ v ≠ Memory.unlisted) := by
  induction m with
  | nil => by_cases hv : v = Memory.unlisted <;> simp_all [Memory.write]
  | cons y m ih =>
    obtain ⟨k, u⟩ := y
    unfold Memory.write at hx
    by_cases h1 : k < key
    · simp only [h1, if_true, List.mem_cons] at hx
      rcases hx with rfl | hx
      · simp
      · rcases ih hx with h | h
        · simp [h]
        · exact .inr h
    · by_cases h2 : k = key
      · by_cases h3 : v = Memory.unlisted
        · simp_all
        · subst h2
          simp only [Nat.lt_irrefl, h3, if_false, if_true, List.mem_cons] at hx
          rcases hx with rfl | hx
          · simp [h3]
          · simp [hx]
      · by_cases h3 : v = Memory.unlisted
        · simp_all
        · simp only [h1, h2, h3, if_false, List.mem_cons] at hx
          rcases hx with rfl | rfl | hx
          · simp [h3]
          · simp
          · simp [hx]

theorem Memory.write_wf {m : Memory} (hm : m.wf) (key : Nat) (v : Byte) : (m.write key v).wf := by
  obtain ⟨hp, hv⟩ := hm
  refine ⟨?_, fun x hx => ?_⟩
  · clear hv
    induction m with
    | nil => by_cases h : v = Memory.unlisted <;> simp [Memory.write, h]
    | cons y m ih =>
      obtain ⟨k, u⟩ := y
      have habove : ∀ x ∈ m, k < x.1 := fun x hx => List.rel_of_pairwise_cons hp hx
      unfold Memory.write
      by_cases h1 : k < key
      · simp only [h1, if_true, List.pairwise_cons]
        refine ⟨fun x hx => ?_, ih hp.of_cons⟩
        rcases Memory.mem_write hx with h | ⟨rfl, _⟩
        · exact habove x h
        · exact h1
      · by_cases h2 : k = key
        · subst h2
          by_cases h3 : v = Memory.unlisted
          · simpa [h3] using hp.of_cons
          · simpa [h3] using hp
        · by_cases h3 : v = Memory.unlisted
          · simpa [h1, h2, h3] using hp
          · simp only [h1, h2, h3, if_false, List.pairwise_cons]
            refine ⟨fun x hx => ?_, List.pairwise_cons.mp hp⟩
            rcases List.mem_cons.mp hx with rfl | hx
            · show key < k; omega
            · have := habove x hx; show key < x.1; omega
  · rcases Memory.mem_write hx with h | ⟨rfl, h⟩
    · exact hv x h
    · exact h

theorem Memory.empty_wf : Memory.wf [] := ⟨List.Pairwise.nil, by simp⟩

theorem Memory.ofBytes_keys (start : Nat) (vs : List Byte) :
    ∀ x ∈ Memory.ofBytes start vs, start ≤ x.1 ∧ x.1 < start + vs.length := by
  induction vs generalizing start with
  | nil => simp [Memory.ofBytes]
  | cons v vs ih =>
    intro x hx
    unfold Memory.ofBytes at hx
    split at hx
    · have := ih (start + 1) x hx; simp; omega
    · rcases List.mem_cons.mp hx with rfl | hx
      · simp
      · have := ih (start + 1) x hx; simp; omega

theorem Memory.ofBytes_wf (start : Nat) (vs : List Byte) : (Memory.ofBytes start vs).wf := by
  induction vs generalizing start with
  | nil => exact Memory.empty_wf
  | cons v vs ih =>
    unfold Memory.ofBytes
    split
    · exact ih (start + 1)
    · rename_i hv
      refine ⟨List.pairwise_cons.mpr ⟨fun x hx => ?_, (ih (start + 1)).1⟩, fun x hx => ?_⟩
      · have := Memory.ofBytes_keys (start + 1) vs x hx; show start < x.1; omega
      · rcases List.mem_cons.mp hx with rfl | hx
        · exact hv
        · exact (ih (start + 1)).2 x hx

theorem initRom_wf (capacity : Nat) (image : List Byte) : (initRom capacity image).wf := Memory.ofBytes_wf _ _

theorem initRam_wf (cells : List Host.Cell) : (initRam cells).wf := by
  induction cells with
  | nil => exact Memory.empty_wf
  | cons x cells ih =>
    obtain ⟨k, v⟩ := x
    unfold initRam
    split
    · exact Memory.write_wf ih k v
    · exact ih

/-- What the RAM arrays hold right after reset: the power-on choice's first cell for the key, and what an unlisted key reads
as without one (R140). -/
theorem initRam_read (cells : List Host.Cell) {key : Nat} (hk : isRamKey key = true) :
    (initRam cells).read key = (cells.lookup key).getD Memory.unlisted := by
  induction cells with
  | nil => rfl
  | cons x cells ih =>
    obtain ⟨k, v⟩ := x
    by_cases h : k = key
    · subst h
      simp [initRam, hk, Memory.read_write_same (initRam_wf cells)]
    · have hl : List.lookup key ((k, v) :: cells) = List.lookup key cells := by
        simp [List.lookup, beq_eq_false_iff_ne.mpr (Ne.symm h)]
      rw [hl, ← ih, initRam]
      split
      · exact Memory.read_write_other _ _ h
      · rfl

theorem reset_memory_wf : State.reset.rom.wf ∧ State.reset.ram.wf := ⟨Memory.empty_wf, Memory.empty_wf⟩

end Sys2Proof.Machine
end

