-- ==== Sys2Proof/Laws/State.lean ====
section
/-!
SUPPORT. One lemma per field of State for each update that is a plain record update, so that no later proof unfolds one.
-/

namespace Sys2Proof.Machine

@[simp] theorem advance_a (n : Nat) (s : State) : (advance n s).a = s.a := rfl
@[simp] theorem advance_f (n : Nat) (s : State) : (advance n s).f = s.f := rfl
@[simp] theorem advance_b (n : Nat) (s : State) : (advance n s).b = s.b := rfl
@[simp] theorem advance_c (n : Nat) (s : State) : (advance n s).c = s.c := rfl
@[simp] theorem advance_d (n : Nat) (s : State) : (advance n s).d = s.d := rfl
@[simp] theorem advance_e (n : Nat) (s : State) : (advance n s).e = s.e := rfl
@[simp] theorem advance_h (n : Nat) (s : State) : (advance n s).h = s.h := rfl
@[simp] theorem advance_l (n : Nat) (s : State) : (advance n s).l = s.l := rfl
@[simp] theorem advance_pc (n : Nat) (s : State) : (advance n s).pc = operandPc s + BitVec.ofNat 16 n := rfl
@[simp] theorem advance_sp (n : Nat) (s : State) : (advance n s).sp = s.sp := rfl
@[simp] theorem advance_mode (n : Nat) (s : State) : (advance n s).mode = s.mode := rfl
@[simp] theorem advance_ime (n : Nat) (s : State) : (advance n s).ime = s.ime := rfl
@[simp] theorem advance_eiPending (n : Nat) (s : State) : (advance n s).eiPending = s.eiPending := rfl
@[simp] theorem advance_haltBug (n : Nat) (s : State) : (advance n s).haltBug = false := rfl
@[simp] theorem advance_cycles (n : Nat) (s : State) : (advance n s).cycles = s.cycles := rfl
@[simp] theorem advance_faultInfo (n : Nat) (s : State) : (advance n s).faultInfo = s.faultInfo := rfl
@[simp] theorem advance_ie (n : Nat) (s : State) : (advance n s).ie = s.ie := rfl
@[simp] theorem advance_ifr (n : Nat) (s : State) : (advance n s).ifr = s.ifr := rfl
@[simp] theorem advance_rom (n : Nat) (s : State) : (advance n s).rom = s.rom := rfl
@[simp] theorem advance_ram (n : Nat) (s : State) : (advance n s).ram = s.ram := rfl
@[simp] theorem advance_mstate (n : Nat) (s : State) : (advance n s).mstate = s.mstate := rfl
@[simp] theorem advance_cfg (n : Nat) (s : State) : (advance n s).cfg = s.cfg := rfl

@[simp] theorem setFlags_a (z n h c : Bool) (s : State) : (setFlags z n h c s).a = s.a := rfl
@[simp] theorem setFlags_f (z n h c : Bool) (s : State) : (setFlags z n h c s).f = flagByte z n h c := rfl
@[simp] theorem setFlags_b (z n h c : Bool) (s : State) : (setFlags z n h c s).b = s.b := rfl
@[simp] theorem setFlags_c (z n h c : Bool) (s : State) : (setFlags z n h c s).c = s.c := rfl
@[simp] theorem setFlags_d (z n h c : Bool) (s : State) : (setFlags z n h c s).d = s.d := rfl
@[simp] theorem setFlags_e (z n h c : Bool) (s : State) : (setFlags z n h c s).e = s.e := rfl
@[simp] theorem setFlags_h (z n h c : Bool) (s : State) : (setFlags z n h c s).h = s.h := rfl
@[simp] theorem setFlags_l (z n h c : Bool) (s : State) : (setFlags z n h c s).l = s.l := rfl
@[simp] theorem setFlags_pc (z n h c : Bool) (s : State) : (setFlags z n h c s).pc = s.pc := rfl
@[simp] theorem setFlags_sp (z n h c : Bool) (s : State) : (setFlags z n h c s).sp = s.sp := rfl
@[simp] theorem setFlags_mode (z n h c : Bool) (s : State) : (setFlags z n h c s).mode = s.mode := rfl
@[simp] theorem setFlags_ime (z n h c : Bool) (s : State) : (setFlags z n h c s).ime = s.ime := rfl
@[simp] theorem setFlags_eiPending (z n h c : Bool) (s : State) : (setFlags z n h c s).eiPending = s.eiPending := rfl
@[simp] theorem setFlags_haltBug (z n h c : Bool) (s : State) : (setFlags z n h c s).haltBug = s.haltBug := rfl
@[simp] theorem setFlags_cycles (z n h c : Bool) (s : State) : (setFlags z n h c s).cycles = s.cycles := rfl
@[simp] theorem setFlags_faultInfo (z n h c : Bool) (s : State) : (setFlags z n h c s).faultInfo = s.faultInfo := rfl
@[simp] theorem setFlags_ie (z n h c : Bool) (s : State) : (setFlags z n h c s).ie = s.ie := rfl
@[simp] theorem setFlags_ifr (z n h c : Bool) (s : State) : (setFlags z n h c s).ifr = s.ifr := rfl
@[simp] theorem setFlags_rom (z n h c : Bool) (s : State) : (setFlags z n h c s).rom = s.rom := rfl
@[simp] theorem setFlags_ram (z n h c : Bool) (s : State) : (setFlags z n h c s).ram = s.ram := rfl
@[simp] theorem setFlags_mstate (z n h c : Bool) (s : State) : (setFlags z n h c s).mstate = s.mstate := rfl
@[simp] theorem setFlags_cfg (z n h c : Bool) (s : State) : (setFlags z n h c s).cfg = s.cfg := rfl

@[simp] theorem charge_a (t : Nat) (s : State) : (charge t s).a = s.a := rfl
@[simp] theorem charge_f (t : Nat) (s : State) : (charge t s).f = s.f := rfl
@[simp] theorem charge_b (t : Nat) (s : State) : (charge t s).b = s.b := rfl
@[simp] theorem charge_c (t : Nat) (s : State) : (charge t s).c = s.c := rfl
@[simp] theorem charge_d (t : Nat) (s : State) : (charge t s).d = s.d := rfl
@[simp] theorem charge_e (t : Nat) (s : State) : (charge t s).e = s.e := rfl
@[simp] theorem charge_h (t : Nat) (s : State) : (charge t s).h = s.h := rfl
@[simp] theorem charge_l (t : Nat) (s : State) : (charge t s).l = s.l := rfl
@[simp] theorem charge_pc (t : Nat) (s : State) : (charge t s).pc = s.pc := rfl
@[simp] theorem charge_sp (t : Nat) (s : State) : (charge t s).sp = s.sp := rfl
@[simp] theorem charge_mode (t : Nat) (s : State) : (charge t s).mode = s.mode := rfl
@[simp] theorem charge_ime (t : Nat) (s : State) : (charge t s).ime = s.ime := rfl
@[simp] theorem charge_eiPending (t : Nat) (s : State) : (charge t s).eiPending = s.eiPending := rfl
@[simp] theorem charge_haltBug (t : Nat) (s : State) : (charge t s).haltBug = s.haltBug := rfl
@[simp] theorem charge_cycles (t : Nat) (s : State) : (charge t s).cycles = s.cycles + t := rfl
@[simp] theorem charge_faultInfo (t : Nat) (s : State) : (charge t s).faultInfo = s.faultInfo := rfl
@[simp] theorem charge_ie (t : Nat) (s : State) : (charge t s).ie = s.ie := rfl
@[simp] theorem charge_ifr (t : Nat) (s : State) : (charge t s).ifr = s.ifr := rfl
@[simp] theorem charge_rom (t : Nat) (s : State) : (charge t s).rom = s.rom := rfl
@[simp] theorem charge_ram (t : Nat) (s : State) : (charge t s).ram = s.ram := rfl
@[simp] theorem charge_mstate (t : Nat) (s : State) : (charge t s).mstate = s.mstate := rfl
@[simp] theorem charge_cfg (t : Nat) (s : State) : (charge t s).cfg = s.cfg := rfl

@[simp] theorem popped_a (s : State) : (popped s).a = s.a := rfl
@[simp] theorem popped_f (s : State) : (popped s).f = s.f := rfl
@[simp] theorem popped_b (s : State) : (popped s).b = s.b := rfl
@[simp] theorem popped_c (s : State) : (popped s).c = s.c := rfl
@[simp] theorem popped_d (s : State) : (popped s).d = s.d := rfl
@[simp] theorem popped_e (s : State) : (popped s).e = s.e := rfl
@[simp] theorem popped_h (s : State) : (popped s).h = s.h := rfl
@[simp] theorem popped_l (s : State) : (popped s).l = s.l := rfl
@[simp] theorem popped_pc (s : State) : (popped s).pc = s.pc := rfl
@[simp] theorem popped_sp (s : State) : (popped s).sp = s.sp + 2 := rfl
@[simp] theorem popped_mode (s : State) : (popped s).mode = s.mode := rfl
@[simp] theorem popped_ime (s : State) : (popped s).ime = s.ime := rfl
@[simp] theorem popped_eiPending (s : State) : (popped s).eiPending = s.eiPending := rfl
@[simp] theorem popped_haltBug (s : State) : (popped s).haltBug = s.haltBug := rfl
@[simp] theorem popped_cycles (s : State) : (popped s).cycles = s.cycles := rfl
@[simp] theorem popped_faultInfo (s : State) : (popped s).faultInfo = s.faultInfo := rfl
@[simp] theorem popped_ie (s : State) : (popped s).ie = s.ie := rfl
@[simp] theorem popped_ifr (s : State) : (popped s).ifr = s.ifr := rfl
@[simp] theorem popped_rom (s : State) : (popped s).rom = s.rom := rfl
@[simp] theorem popped_ram (s : State) : (popped s).ram = s.ram := rfl
@[simp] theorem popped_mstate (s : State) : (popped s).mstate = s.mstate := rfl
@[simp] theorem popped_cfg (s : State) : (popped s).cfg = s.cfg := rfl

@[simp] theorem decodeFault_a (code : FaultCode) (op : Byte) (p : Bool) (s : State) : (decodeFault code op p s).a = s.a := rfl
@[simp] theorem decodeFault_f (code : FaultCode) (op : Byte) (p : Bool) (s : State) : (decodeFault code op p s).f = s.f := rfl
@[simp] theorem decodeFault_b (code : FaultCode) (op : Byte) (p : Bool) (s : State) : (decodeFault code op p s).b = s.b := rfl
@[simp] theorem decodeFault_c (code : FaultCode) (op : Byte) (p : Bool) (s : State) : (decodeFault code op p s).c = s.c := rfl
@[simp] theorem decodeFault_d (code : FaultCode) (op : Byte) (p : Bool) (s : State) : (decodeFault code op p s).d = s.d := rfl
@[simp] theorem decodeFault_e (code : FaultCode) (op : Byte) (p : Bool) (s : State) : (decodeFault code op p s).e = s.e := rfl
@[simp] theorem decodeFault_h (code : FaultCode) (op : Byte) (p : Bool) (s : State) : (decodeFault code op p s).h = s.h := rfl
@[simp] theorem decodeFault_l (code : FaultCode) (op : Byte) (p : Bool) (s : State) : (decodeFault code op p s).l = s.l := rfl
@[simp] theorem decodeFault_pc (code : FaultCode) (op : Byte) (p : Bool) (s : State) : (decodeFault code op p s).pc = s.pc := rfl
@[simp] theorem decodeFault_sp (code : FaultCode) (op : Byte) (p : Bool) (s : State) : (decodeFault code op p s).sp = s.sp := rfl
@[simp] theorem decodeFault_mode (code : FaultCode) (op : Byte) (p : Bool) (s : State) : (decodeFault code op p s).mode = .faulted := rfl
@[simp] theorem decodeFault_ime (code : FaultCode) (op : Byte) (p : Bool) (s : State) : (decodeFault code op p s).ime = s.ime := rfl
@[simp] theorem decodeFault_eiPending (code : FaultCode) (op : Byte) (p : Bool) (s : State) : (decodeFault code op p s).eiPending = s.eiPending := rfl
@[simp] theorem decodeFault_haltBug (code : FaultCode) (op : Byte) (p : Bool) (s : State) : (decodeFault code op p s).haltBug = s.haltBug := rfl
@[simp] theorem decodeFault_cycles (code : FaultCode) (op : Byte) (p : Bool) (s : State) : (decodeFault code op p s).cycles = s.cycles := rfl
@[simp] theorem decodeFault_faultInfo (code : FaultCode) (op : Byte) (p : Bool) (s : State) : (decodeFault code op p s).faultInfo = some ⟨code, s.pc, op, p⟩ := rfl
@[simp] theorem decodeFault_ie (code : FaultCode) (op : Byte) (p : Bool) (s : State) : (decodeFault code op p s).ie = s.ie := rfl
@[simp] theorem decodeFault_ifr (code : FaultCode) (op : Byte) (p : Bool) (s : State) : (decodeFault code op p s).ifr = s.ifr := rfl
@[simp] theorem decodeFault_rom (code : FaultCode) (op : Byte) (p : Bool) (s : State) : (decodeFault code op p s).rom = s.rom := rfl
@[simp] theorem decodeFault_ram (code : FaultCode) (op : Byte) (p : Bool) (s : State) : (decodeFault code op p s).ram = s.ram := rfl
@[simp] theorem decodeFault_mstate (code : FaultCode) (op : Byte) (p : Bool) (s : State) : (decodeFault code op p s).mstate = s.mstate := rfl
@[simp] theorem decodeFault_cfg (code : FaultCode) (op : Byte) (p : Bool) (s : State) : (decodeFault code op p s).cfg = s.cfg := rfl

@[simp] theorem returnFromInterrupt_a (s : State) : (returnFromInterrupt s).a = s.a := rfl
@[simp] theorem returnFromInterrupt_f (s : State) : (returnFromInterrupt s).f = s.f := rfl
@[simp] theorem returnFromInterrupt_b (s : State) : (returnFromInterrupt s).b = s.b := rfl
@[simp] theorem returnFromInterrupt_c (s : State) : (returnFromInterrupt s).c = s.c := rfl
@[simp] theorem returnFromInterrupt_d (s : State) : (returnFromInterrupt s).d = s.d := rfl
@[simp] theorem returnFromInterrupt_e (s : State) : (returnFromInterrupt s).e = s.e := rfl
@[simp] theorem returnFromInterrupt_h (s : State) : (returnFromInterrupt s).h = s.h := rfl
@[simp] theorem returnFromInterrupt_l (s : State) : (returnFromInterrupt s).l = s.l := rfl
@[simp] theorem returnFromInterrupt_pc (s : State) : (returnFromInterrupt s).pc = popValue s := rfl
@[simp] theorem returnFromInterrupt_sp (s : State) : (returnFromInterrupt s).sp = s.sp + 2 := rfl
@[simp] theorem returnFromInterrupt_mode (s : State) : (returnFromInterrupt s).mode = s.mode := rfl
@[simp] theorem returnFromInterrupt_ime (s : State) : (returnFromInterrupt s).ime = true := rfl
@[simp] theorem returnFromInterrupt_eiPending (s : State) : (returnFromInterrupt s).eiPending = false := rfl
@[simp] theorem returnFromInterrupt_haltBug (s : State) : (returnFromInterrupt s).haltBug = s.haltBug := rfl
@[simp] theorem returnFromInterrupt_cycles (s : State) : (returnFromInterrupt s).cycles = s.cycles := rfl
@[simp] theorem returnFromInterrupt_faultInfo (s : State) : (returnFromInterrupt s).faultInfo = s.faultInfo := rfl
@[simp] theorem returnFromInterrupt_ie (s : State) : (returnFromInterrupt s).ie = s.ie := rfl
@[simp] theorem returnFromInterrupt_ifr (s : State) : (returnFromInterrupt s).ifr = s.ifr := rfl
@[simp] theorem returnFromInterrupt_rom (s : State) : (returnFromInterrupt s).rom = s.rom := rfl
@[simp] theorem returnFromInterrupt_ram (s : State) : (returnFromInterrupt s).ram = s.ram := rfl
@[simp] theorem returnFromInterrupt_mstate (s : State) : (returnFromInterrupt s).mstate = s.mstate := rfl
@[simp] theorem returnFromInterrupt_cfg (s : State) : (returnFromInterrupt s).cfg = s.cfg := rfl

@[simp] theorem loadA_a (addr : Word) (s : State) : (loadA addr s).a = busRead s addr := rfl
@[simp] theorem loadA_f (addr : Word) (s : State) : (loadA addr s).f = s.f := rfl
@[simp] theorem loadA_b (addr : Word) (s : State) : (loadA addr s).b = s.b := rfl
@[simp] theorem loadA_c (addr : Word) (s : State) : (loadA addr s).c = s.c := rfl
@[simp] theorem loadA_d (addr : Word) (s : State) : (loadA addr s).d = s.d := rfl
@[simp] theorem loadA_e (addr : Word) (s : State) : (loadA addr s).e = s.e := rfl
@[simp] theorem loadA_h (addr : Word) (s : State) : (loadA addr s).h = s.h := rfl
@[simp] theorem loadA_l (addr : Word) (s : State) : (loadA addr s).l = s.l := rfl
@[simp] theorem loadA_pc (addr : Word) (s : State) : (loadA addr s).pc = s.pc := rfl
@[simp] theorem loadA_sp (addr : Word) (s : State) : (loadA addr s).sp = s.sp := rfl
@[simp] theorem loadA_mode (addr : Word) (s : State) : (loadA addr s).mode = s.mode := rfl
@[simp] theorem loadA_ime (addr : Word) (s : State) : (loadA addr s).ime = s.ime := rfl
@[simp] theorem loadA_eiPending (addr : Word) (s : State) : (loadA addr s).eiPending = s.eiPending := rfl
@[simp] theorem loadA_haltBug (addr : Word) (s : State) : (loadA addr s).haltBug = s.haltBug := rfl
@[simp] theorem loadA_cycles (addr : Word) (s : State) : (loadA addr s).cycles = s.cycles := rfl
@[simp] theorem loadA_faultInfo (addr : Word) (s : State) : (loadA addr s).faultInfo = s.faultInfo := rfl
@[simp] theorem loadA_ie (addr : Word) (s : State) : (loadA addr s).ie = s.ie := rfl
@[simp] theorem loadA_ifr (addr : Word) (s : State) : (loadA addr s).ifr = s.ifr := rfl
@[simp] theorem loadA_rom (addr : Word) (s : State) : (loadA addr s).rom = s.rom := rfl
@[simp] theorem loadA_ram (addr : Word) (s : State) : (loadA addr s).ram = s.ram := rfl
@[simp] theorem loadA_mstate (addr : Word) (s : State) : (loadA addr s).mstate = s.mstate := rfl
@[simp] theorem loadA_cfg (addr : Word) (s : State) : (loadA addr s).cfg = s.cfg := rfl

@[simp] theorem jumpTo_a (t : Word) (s : State) : (jumpTo t s).a = s.a := rfl
@[simp] theorem jumpTo_f (t : Word) (s : State) : (jumpTo t s).f = s.f := rfl
@[simp] theorem jumpTo_b (t : Word) (s : State) : (jumpTo t s).b = s.b := rfl
@[simp] theorem jumpTo_c (t : Word) (s : State) : (jumpTo t s).c = s.c := rfl
@[simp] theorem jumpTo_d (t : Word) (s : State) : (jumpTo t s).d = s.d := rfl
@[simp] theorem jumpTo_e (t : Word) (s : State) : (jumpTo t s).e = s.e := rfl
@[simp] theorem jumpTo_h (t : Word) (s : State) : (jumpTo t s).h = s.h := rfl
@[simp] theorem jumpTo_l (t : Word) (s : State) : (jumpTo t s).l = s.l := rfl
@[simp] theorem jumpTo_pc (t : Word) (s : State) : (jumpTo t s).pc = t := rfl
@[simp] theorem jumpTo_sp (t : Word) (s : State) : (jumpTo t s).sp = s.sp := rfl
@[simp] theorem jumpTo_mode (t : Word) (s : State) : (jumpTo t s).mode = s.mode := rfl
@[simp] theorem jumpTo_ime (t : Word) (s : State) : (jumpTo t s).ime = s.ime := rfl
@[simp] theorem jumpTo_eiPending (t : Word) (s : State) : (jumpTo t s).eiPending = s.eiPending := rfl
@[simp] theorem jumpTo_haltBug (t : Word) (s : State) : (jumpTo t s).haltBug = s.haltBug := rfl
@[simp] theorem jumpTo_cycles (t : Word) (s : State) : (jumpTo t s).cycles = s.cycles := rfl
@[simp] theorem jumpTo_faultInfo (t : Word) (s : State) : (jumpTo t s).faultInfo = s.faultInfo := rfl
@[simp] theorem jumpTo_ie (t : Word) (s : State) : (jumpTo t s).ie = s.ie := rfl
@[simp] theorem jumpTo_ifr (t : Word) (s : State) : (jumpTo t s).ifr = s.ifr := rfl
@[simp] theorem jumpTo_rom (t : Word) (s : State) : (jumpTo t s).rom = s.rom := rfl
@[simp] theorem jumpTo_ram (t : Word) (s : State) : (jumpTo t s).ram = s.ram := rfl
@[simp] theorem jumpTo_mstate (t : Word) (s : State) : (jumpTo t s).mstate = s.mstate := rfl
@[simp] theorem jumpTo_cfg (t : Word) (s : State) : (jumpTo t s).cfg = s.cfg := rfl

@[simp] theorem jumpBy_a (e : Byte) (s : State) : (jumpBy e s).a = s.a := rfl
@[simp] theorem jumpBy_f (e : Byte) (s : State) : (jumpBy e s).f = s.f := rfl
@[simp] theorem jumpBy_b (e : Byte) (s : State) : (jumpBy e s).b = s.b := rfl
@[simp] theorem jumpBy_c (e : Byte) (s : State) : (jumpBy e s).c = s.c := rfl
@[simp] theorem jumpBy_d (e : Byte) (s : State) : (jumpBy e s).d = s.d := rfl
@[simp] theorem jumpBy_e (e : Byte) (s : State) : (jumpBy e s).e = s.e := rfl
@[simp] theorem jumpBy_h (e : Byte) (s : State) : (jumpBy e s).h = s.h := rfl
@[simp] theorem jumpBy_l (e : Byte) (s : State) : (jumpBy e s).l = s.l := rfl
@[simp] theorem jumpBy_pc (e : Byte) (s : State) : (jumpBy e s).pc = s.pc + sext8 e := rfl
@[simp] theorem jumpBy_sp (e : Byte) (s : State) : (jumpBy e s).sp = s.sp := rfl
@[simp] theorem jumpBy_mode (e : Byte) (s : State) : (jumpBy e s).mode = s.mode := rfl
@[simp] theorem jumpBy_ime (e : Byte) (s : State) : (jumpBy e s).ime = s.ime := rfl
@[simp] theorem jumpBy_eiPending (e : Byte) (s : State) : (jumpBy e s).eiPending = s.eiPending := rfl
@[simp] theorem jumpBy_haltBug (e : Byte) (s : State) : (jumpBy e s).haltBug = s.haltBug := rfl
@[simp] theorem jumpBy_cycles (e : Byte) (s : State) : (jumpBy e s).cycles = s.cycles := rfl
@[simp] theorem jumpBy_faultInfo (e : Byte) (s : State) : (jumpBy e s).faultInfo = s.faultInfo := rfl
@[simp] theorem jumpBy_ie (e : Byte) (s : State) : (jumpBy e s).ie = s.ie := rfl
@[simp] theorem jumpBy_ifr (e : Byte) (s : State) : (jumpBy e s).ifr = s.ifr := rfl
@[simp] theorem jumpBy_rom (e : Byte) (s : State) : (jumpBy e s).rom = s.rom := rfl
@[simp] theorem jumpBy_ram (e : Byte) (s : State) : (jumpBy e s).ram = s.ram := rfl
@[simp] theorem jumpBy_mstate (e : Byte) (s : State) : (jumpBy e s).mstate = s.mstate := rfl
@[simp] theorem jumpBy_cfg (e : Byte) (s : State) : (jumpBy e s).cfg = s.cfg := rfl

@[simp] theorem returnToCaller_a (s : State) : (returnToCaller s).a = s.a := rfl
@[simp] theorem returnToCaller_f (s : State) : (returnToCaller s).f = s.f := rfl
@[simp] theorem returnToCaller_b (s : State) : (returnToCaller s).b = s.b := rfl
@[simp] theorem returnToCaller_c (s : State) : (returnToCaller s).c = s.c := rfl
@[simp] theorem returnToCaller_d (s : State) : (returnToCaller s).d = s.d := rfl
@[simp] theorem returnToCaller_e (s : State) : (returnToCaller s).e = s.e := rfl
@[simp] theorem returnToCaller_h (s : State) : (returnToCaller s).h = s.h := rfl
@[simp] theorem returnToCaller_l (s : State) : (returnToCaller s).l = s.l := rfl
@[simp] theorem returnToCaller_pc (s : State) : (returnToCaller s).pc = popValue s := rfl
@[simp] theorem returnToCaller_sp (s : State) : (returnToCaller s).sp = s.sp + 2 := rfl
@[simp] theorem returnToCaller_mode (s : State) : (returnToCaller s).mode = s.mode := rfl
@[simp] theorem returnToCaller_ime (s : State) : (returnToCaller s).ime = s.ime := rfl
@[simp] theorem returnToCaller_eiPending (s : State) : (returnToCaller s).eiPending = s.eiPending := rfl
@[simp] theorem returnToCaller_haltBug (s : State) : (returnToCaller s).haltBug = s.haltBug := rfl
@[simp] theorem returnToCaller_cycles (s : State) : (returnToCaller s).cycles = s.cycles := rfl
@[simp] theorem returnToCaller_faultInfo (s : State) : (returnToCaller s).faultInfo = s.faultInfo := rfl
@[simp] theorem returnToCaller_ie (s : State) : (returnToCaller s).ie = s.ie := rfl
@[simp] theorem returnToCaller_ifr (s : State) : (returnToCaller s).ifr = s.ifr := rfl
@[simp] theorem returnToCaller_rom (s : State) : (returnToCaller s).rom = s.rom := rfl
@[simp] theorem returnToCaller_ram (s : State) : (returnToCaller s).ram = s.ram := rfl
@[simp] theorem returnToCaller_mstate (s : State) : (returnToCaller s).mstate = s.mstate := rfl
@[simp] theorem returnToCaller_cfg (s : State) : (returnToCaller s).cfg = s.cfg := rfl

@[simp] theorem complementA_a (s : State) : (complementA s).a = ~~~s.a := rfl
@[simp] theorem complementA_f (s : State) : (complementA s).f = flagByte (flagZ s) true true (flagC s) := rfl
@[simp] theorem complementA_b (s : State) : (complementA s).b = s.b := rfl
@[simp] theorem complementA_c (s : State) : (complementA s).c = s.c := rfl
@[simp] theorem complementA_d (s : State) : (complementA s).d = s.d := rfl
@[simp] theorem complementA_e (s : State) : (complementA s).e = s.e := rfl
@[simp] theorem complementA_h (s : State) : (complementA s).h = s.h := rfl
@[simp] theorem complementA_l (s : State) : (complementA s).l = s.l := rfl
@[simp] theorem complementA_pc (s : State) : (complementA s).pc = s.pc := rfl
@[simp] theorem complementA_sp (s : State) : (complementA s).sp = s.sp := rfl
@[simp] theorem complementA_mode (s : State) : (complementA s).mode = s.mode := rfl
@[simp] theorem complementA_ime (s : State) : (complementA s).ime = s.ime := rfl
@[simp] theorem complementA_eiPending (s : State) : (complementA s).eiPending = s.eiPending := rfl
@[simp] theorem complementA_haltBug (s : State) : (complementA s).haltBug = s.haltBug := rfl
@[simp] theorem complementA_cycles (s : State) : (complementA s).cycles = s.cycles := rfl
@[simp] theorem complementA_faultInfo (s : State) : (complementA s).faultInfo = s.faultInfo := rfl
@[simp] theorem complementA_ie (s : State) : (complementA s).ie = s.ie := rfl
@[simp] theorem complementA_ifr (s : State) : (complementA s).ifr = s.ifr := rfl
@[simp] theorem complementA_rom (s : State) : (complementA s).rom = s.rom := rfl
@[simp] theorem complementA_ram (s : State) : (complementA s).ram = s.ram := rfl
@[simp] theorem complementA_mstate (s : State) : (complementA s).mstate = s.mstate := rfl
@[simp] theorem complementA_cfg (s : State) : (complementA s).cfg = s.cfg := rfl

@[simp] theorem setCarry_a (s : State) : (setCarry s).a = s.a := rfl
@[simp] theorem setCarry_f (s : State) : (setCarry s).f = flagByte (flagZ s) false false true := rfl
@[simp] theorem setCarry_b (s : State) : (setCarry s).b = s.b := rfl
@[simp] theorem setCarry_c (s : State) : (setCarry s).c = s.c := rfl
@[simp] theorem setCarry_d (s : State) : (setCarry s).d = s.d := rfl
@[simp] theorem setCarry_e (s : State) : (setCarry s).e = s.e := rfl
@[simp] theorem setCarry_h (s : State) : (setCarry s).h = s.h := rfl
@[simp] theorem setCarry_l (s : State) : (setCarry s).l = s.l := rfl
@[simp] theorem setCarry_pc (s : State) : (setCarry s).pc = s.pc := rfl
@[simp] theorem setCarry_sp (s : State) : (setCarry s).sp = s.sp := rfl
@[simp] theorem setCarry_mode (s : State) : (setCarry s).mode = s.mode := rfl
@[simp] theorem setCarry_ime (s : State) : (setCarry s).ime = s.ime := rfl
@[simp] theorem setCarry_eiPending (s : State) : (setCarry s).eiPending = s.eiPending := rfl
@[simp] theorem setCarry_haltBug (s : State) : (setCarry s).haltBug = s.haltBug := rfl
@[simp] theorem setCarry_cycles (s : State) : (setCarry s).cycles = s.cycles := rfl
@[simp] theorem setCarry_faultInfo (s : State) : (setCarry s).faultInfo = s.faultInfo := rfl
@[simp] theorem setCarry_ie (s : State) : (setCarry s).ie = s.ie := rfl
@[simp] theorem setCarry_ifr (s : State) : (setCarry s).ifr = s.ifr := rfl
@[simp] theorem setCarry_rom (s : State) : (setCarry s).rom = s.rom := rfl
@[simp] theorem setCarry_ram (s : State) : (setCarry s).ram = s.ram := rfl
@[simp] theorem setCarry_mstate (s : State) : (setCarry s).mstate = s.mstate := rfl
@[simp] theorem setCarry_cfg (s : State) : (setCarry s).cfg = s.cfg := rfl

@[simp] theorem flipCarry_a (s : State) : (flipCarry s).a = s.a := rfl
@[simp] theorem flipCarry_f (s : State) : (flipCarry s).f = flagByte (flagZ s) false false (!flagC s) := rfl
@[simp] theorem flipCarry_b (s : State) : (flipCarry s).b = s.b := rfl
@[simp] theorem flipCarry_c (s : State) : (flipCarry s).c = s.c := rfl
@[simp] theorem flipCarry_d (s : State) : (flipCarry s).d = s.d := rfl
@[simp] theorem flipCarry_e (s : State) : (flipCarry s).e = s.e := rfl
@[simp] theorem flipCarry_h (s : State) : (flipCarry s).h = s.h := rfl
@[simp] theorem flipCarry_l (s : State) : (flipCarry s).l = s.l := rfl
@[simp] theorem flipCarry_pc (s : State) : (flipCarry s).pc = s.pc := rfl
@[simp] theorem flipCarry_sp (s : State) : (flipCarry s).sp = s.sp := rfl
@[simp] theorem flipCarry_mode (s : State) : (flipCarry s).mode = s.mode := rfl
@[simp] theorem flipCarry_ime (s : State) : (flipCarry s).ime = s.ime := rfl
@[simp] theorem flipCarry_eiPending (s : State) : (flipCarry s).eiPending = s.eiPending := rfl
@[simp] theorem flipCarry_haltBug (s : State) : (flipCarry s).haltBug = s.haltBug := rfl
@[simp] theorem flipCarry_cycles (s : State) : (flipCarry s).cycles = s.cycles := rfl
@[simp] theorem flipCarry_faultInfo (s : State) : (flipCarry s).faultInfo = s.faultInfo := rfl
@[simp] theorem flipCarry_ie (s : State) : (flipCarry s).ie = s.ie := rfl
@[simp] theorem flipCarry_ifr (s : State) : (flipCarry s).ifr = s.ifr := rfl
@[simp] theorem flipCarry_rom (s : State) : (flipCarry s).rom = s.rom := rfl
@[simp] theorem flipCarry_ram (s : State) : (flipCarry s).ram = s.ram := rfl
@[simp] theorem flipCarry_mstate (s : State) : (flipCarry s).mstate = s.mstate := rfl
@[simp] theorem flipCarry_cfg (s : State) : (flipCarry s).cfg = s.cfg := rfl

@[simp] theorem haltCore_a (s : State) : (haltCore s).a = s.a := rfl
@[simp] theorem haltCore_f (s : State) : (haltCore s).f = s.f := rfl
@[simp] theorem haltCore_b (s : State) : (haltCore s).b = s.b := rfl
@[simp] theorem haltCore_c (s : State) : (haltCore s).c = s.c := rfl
@[simp] theorem haltCore_d (s : State) : (haltCore s).d = s.d := rfl
@[simp] theorem haltCore_e (s : State) : (haltCore s).e = s.e := rfl
@[simp] theorem haltCore_h (s : State) : (haltCore s).h = s.h := rfl
@[simp] theorem haltCore_l (s : State) : (haltCore s).l = s.l := rfl
@[simp] theorem haltCore_pc (s : State) : (haltCore s).pc = s.pc := rfl
@[simp] theorem haltCore_sp (s : State) : (haltCore s).sp = s.sp := rfl
@[simp] theorem haltCore_mode (s : State) : (haltCore s).mode = .halted := rfl
@[simp] theorem haltCore_ime (s : State) : (haltCore s).ime = s.ime := rfl
@[simp] theorem haltCore_eiPending (s : State) : (haltCore s).eiPending = s.eiPending := rfl
@[simp] theorem haltCore_haltBug (s : State) : (haltCore s).haltBug = (s.haltBug || (s.cfg.gkAdmitted && !s.ime && decide (pending s ≠ 0))) := rfl
@[simp] theorem haltCore_cycles (s : State) : (haltCore s).cycles = s.cycles := rfl
@[simp] theorem haltCore_faultInfo (s : State) : (haltCore s).faultInfo = s.faultInfo := rfl
@[simp] theorem haltCore_ie (s : State) : (haltCore s).ie = s.ie := rfl
@[simp] theorem haltCore_ifr (s : State) : (haltCore s).ifr = s.ifr := rfl
@[simp] theorem haltCore_rom (s : State) : (haltCore s).rom = s.rom := rfl
@[simp] theorem haltCore_ram (s : State) : (haltCore s).ram = s.ram := rfl
@[simp] theorem haltCore_mstate (s : State) : (haltCore s).mstate = s.mstate := rfl
@[simp] theorem haltCore_cfg (s : State) : (haltCore s).cfg = s.cfg := rfl

end Sys2Proof.Machine
end

