-- ==== Sys2Proof/Laws/Ops.lean ====
section
/-!
SUPPORT. What each shared operation does and leaves alone, said once.
-/

namespace Sys2Proof.Machine

/-! ### The bus -/

@[simp] theorem busWrite_a (s : State) (addr : Word) (v : Byte) : (busWrite s addr v).a = s.a := by
  unfold busWrite; split <;> first | rfl | (split <;> rfl)
@[simp] theorem busWrite_f (s : State) (addr : Word) (v : Byte) : (busWrite s addr v).f = s.f := by
  unfold busWrite; split <;> first | rfl | (split <;> rfl)
@[simp] theorem busWrite_b (s : State) (addr : Word) (v : Byte) : (busWrite s addr v).b = s.b := by
  unfold busWrite; split <;> first | rfl | (split <;> rfl)
@[simp] theorem busWrite_c (s : State) (addr : Word) (v : Byte) : (busWrite s addr v).c = s.c := by
  unfold busWrite; split <;> first | rfl | (split <;> rfl)
@[simp] theorem busWrite_d (s : State) (addr : Word) (v : Byte) : (busWrite s addr v).d = s.d := by
  unfold busWrite; split <;> first | rfl | (split <;> rfl)
@[simp] theorem busWrite_e (s : State) (addr : Word) (v : Byte) : (busWrite s addr v).e = s.e := by
  unfold busWrite; split <;> first | rfl | (split <;> rfl)
@[simp] theorem busWrite_h (s : State) (addr : Word) (v : Byte) : (busWrite s addr v).h = s.h := by
  unfold busWrite; split <;> first | rfl | (split <;> rfl)
@[simp] theorem busWrite_l (s : State) (addr : Word) (v : Byte) : (busWrite s addr v).l = s.l := by
  unfold busWrite; split <;> first | rfl | (split <;> rfl)
@[simp] theorem busWrite_pc (s : State) (addr : Word) (v : Byte) : (busWrite s addr v).pc = s.pc := by
  unfold busWrite; split <;> first | rfl | (split <;> rfl)
@[simp] theorem busWrite_sp (s : State) (addr : Word) (v : Byte) : (busWrite s addr v).sp = s.sp := by
  unfold busWrite; split <;> first | rfl | (split <;> rfl)
@[simp] theorem busWrite_mode (s : State) (addr : Word) (v : Byte) : (busWrite s addr v).mode = s.mode := by
  unfold busWrite; split <;> first | rfl | (split <;> rfl)
@[simp] theorem busWrite_ime (s : State) (addr : Word) (v : Byte) : (busWrite s addr v).ime = s.ime := by
  unfold busWrite; split <;> first | rfl | (split <;> rfl)
@[simp] theorem busWrite_eiPending (s : State) (addr : Word) (v : Byte) : (busWrite s addr v).eiPending = s.eiPending := by
  unfold busWrite; split <;> first | rfl | (split <;> rfl)
@[simp] theorem busWrite_haltBug (s : State) (addr : Word) (v : Byte) : (busWrite s addr v).haltBug = s.haltBug := by
  unfold busWrite; split <;> first | rfl | (split <;> rfl)
@[simp] theorem busWrite_cycles (s : State) (addr : Word) (v : Byte) : (busWrite s addr v).cycles = s.cycles := by
  unfold busWrite; split <;> first | rfl | (split <;> rfl)
@[simp] theorem busWrite_faultInfo (s : State) (addr : Word) (v : Byte) : (busWrite s addr v).faultInfo = s.faultInfo := by
  unfold busWrite; split <;> first | rfl | (split <;> rfl)
@[simp] theorem busWrite_rom (s : State) (addr : Word) (v : Byte) : (busWrite s addr v).rom = s.rom := by
  unfold busWrite; split <;> first | rfl | (split <;> rfl)
@[simp] theorem busWrite_cfg (s : State) (addr : Word) (v : Byte) : (busWrite s addr v).cfg = s.cfg := by
  unfold busWrite; split <;> first | rfl | (split <;> rfl)

@[simp] theorem memWrite16_a (s : State) (addr v : Word) : (memWrite16 s addr v).a = s.a := by simp [memWrite16]
@[simp] theorem memWrite16_f (s : State) (addr v : Word) : (memWrite16 s addr v).f = s.f := by simp [memWrite16]
@[simp] theorem memWrite16_b (s : State) (addr v : Word) : (memWrite16 s addr v).b = s.b := by simp [memWrite16]
@[simp] theorem memWrite16_c (s : State) (addr v : Word) : (memWrite16 s addr v).c = s.c := by simp [memWrite16]
@[simp] theorem memWrite16_d (s : State) (addr v : Word) : (memWrite16 s addr v).d = s.d := by simp [memWrite16]
@[simp] theorem memWrite16_e (s : State) (addr v : Word) : (memWrite16 s addr v).e = s.e := by simp [memWrite16]
@[simp] theorem memWrite16_h (s : State) (addr v : Word) : (memWrite16 s addr v).h = s.h := by simp [memWrite16]
@[simp] theorem memWrite16_l (s : State) (addr v : Word) : (memWrite16 s addr v).l = s.l := by simp [memWrite16]
@[simp] theorem memWrite16_pc (s : State) (addr v : Word) : (memWrite16 s addr v).pc = s.pc := by simp [memWrite16]
@[simp] theorem memWrite16_sp (s : State) (addr v : Word) : (memWrite16 s addr v).sp = s.sp := by simp [memWrite16]
@[simp] theorem memWrite16_mode (s : State) (addr v : Word) : (memWrite16 s addr v).mode = s.mode := by simp [memWrite16]
@[simp] theorem memWrite16_ime (s : State) (addr v : Word) : (memWrite16 s addr v).ime = s.ime := by simp [memWrite16]
@[simp] theorem memWrite16_eiPending (s : State) (addr v : Word) : (memWrite16 s addr v).eiPending = s.eiPending := by simp [memWrite16]
@[simp] theorem memWrite16_haltBug (s : State) (addr v : Word) : (memWrite16 s addr v).haltBug = s.haltBug := by simp [memWrite16]
@[simp] theorem memWrite16_cycles (s : State) (addr v : Word) : (memWrite16 s addr v).cycles = s.cycles := by simp [memWrite16]
@[simp] theorem memWrite16_faultInfo (s : State) (addr v : Word) : (memWrite16 s addr v).faultInfo = s.faultInfo := by simp [memWrite16]
@[simp] theorem memWrite16_rom (s : State) (addr v : Word) : (memWrite16 s addr v).rom = s.rom := by simp [memWrite16]
@[simp] theorem memWrite16_cfg (s : State) (addr v : Word) : (memWrite16 s addr v).cfg = s.cfg := by simp [memWrite16]

@[simp] theorem storeA_a (addr : Word) (s : State) : (storeA addr s).a = s.a := by simp [storeA]
@[simp] theorem storeA_f (addr : Word) (s : State) : (storeA addr s).f = s.f := by simp [storeA]
@[simp] theorem storeA_b (addr : Word) (s : State) : (storeA addr s).b = s.b := by simp [storeA]
@[simp] theorem storeA_c (addr : Word) (s : State) : (storeA addr s).c = s.c := by simp [storeA]
@[simp] theorem storeA_d (addr : Word) (s : State) : (storeA addr s).d = s.d := by simp [storeA]
@[simp] theorem storeA_e (addr : Word) (s : State) : (storeA addr s).e = s.e := by simp [storeA]
@[simp] theorem storeA_h (addr : Word) (s : State) : (storeA addr s).h = s.h := by simp [storeA]
@[simp] theorem storeA_l (addr : Word) (s : State) : (storeA addr s).l = s.l := by simp [storeA]
@[simp] theorem storeA_pc (addr : Word) (s : State) : (storeA addr s).pc = s.pc := by simp [storeA]
@[simp] theorem storeA_sp (addr : Word) (s : State) : (storeA addr s).sp = s.sp := by simp [storeA]
@[simp] theorem storeA_mode (addr : Word) (s : State) : (storeA addr s).mode = s.mode := by simp [storeA]
@[simp] theorem storeA_ime (addr : Word) (s : State) : (storeA addr s).ime = s.ime := by simp [storeA]
@[simp] theorem storeA_eiPending (addr : Word) (s : State) : (storeA addr s).eiPending = s.eiPending := by simp [storeA]
@[simp] theorem storeA_haltBug (addr : Word) (s : State) : (storeA addr s).haltBug = s.haltBug := by simp [storeA]
@[simp] theorem storeA_cycles (addr : Word) (s : State) : (storeA addr s).cycles = s.cycles := by simp [storeA]
@[simp] theorem storeA_faultInfo (addr : Word) (s : State) : (storeA addr s).faultInfo = s.faultInfo := by simp [storeA]
@[simp] theorem storeA_rom (addr : Word) (s : State) : (storeA addr s).rom = s.rom := by simp [storeA]
@[simp] theorem storeA_cfg (addr : Word) (s : State) : (storeA addr s).cfg = s.cfg := by simp [storeA]

/-! #### Which byte an address names -/

/-- The region of an address with its range (R201). -/
theorem region_range (addr : Word) :
    (region addr = .rom0 ∧ addr.toNat ≤ 0x3FFF) ∨
    (region addr = .romx ∧ 0x4000 ≤ addr.toNat ∧ addr.toNat ≤ 0x7FFF) ∨
    (region addr = .vram ∧ 0x8000 ≤ addr.toNat ∧ addr.toNat ≤ 0x9FFF) ∨
    (region addr = .eram ∧ 0xA000 ≤ addr.toNat ∧ addr.toNat ≤ 0xBFFF) ∨
    (region addr = .wram ∧ 0xC000 ≤ addr.toNat ∧ addr.toNat ≤ 0xDFFF) ∨
    (region addr = .echo ∧ 0xE000 ≤ addr.toNat ∧ addr.toNat ≤ 0xFDFF) ∨
    (region addr = .oam ∧ 0xFE00 ≤ addr.toNat ∧ addr.toNat ≤ 0xFE9F) ∨
    (region addr = .unusable ∧ 0xFEA0 ≤ addr.toNat ∧ addr.toNat ≤ 0xFEFF) ∨
    (region addr = .io ∧ 0xFF00 ≤ addr.toNat ∧ addr.toNat ≤ 0xFF7F) ∨
    (region addr = .hram ∧ 0xFF80 ≤ addr.toNat ∧ addr.toNat ≤ 0xFFFE) ∨
    (region addr = .ie ∧ addr.toNat = 0xFFFF) := by
  have := addr.isLt
  unfold region
  by_cases h1 : addr.toNat ≤ 0x3FFF
  · simp [h1]
  by_cases h2 : addr.toNat ≤ 0x7FFF
  · simp [h1, h2]; omega
  by_cases h3 : addr.toNat ≤ 0x9FFF
  · simp [h1, h2, h3]; omega
  by_cases h4 : addr.toNat ≤ 0xBFFF
  · simp [h1, h2, h3, h4]; omega
  by_cases h5 : addr.toNat ≤ 0xDFFF
  · simp [h1, h2, h3, h4, h5]; omega
  by_cases h6 : addr.toNat ≤ 0xFDFF
  · simp [h1, h2, h3, h4, h5, h6]; omega
  by_cases h7 : addr.toNat ≤ 0xFE9F
  · simp [h1, h2, h3, h4, h5, h6, h7]; omega
  by_cases h8 : addr.toNat ≤ 0xFEFF
  · simp [h1, h2, h3, h4, h5, h6, h7, h8]; omega
  by_cases h9 : addr.toNat ≤ 0xFF7F
  · simp [h1, h2, h3, h4, h5, h6, h7, h8, h9]; omega
  by_cases h10 : addr.toNat ≤ 0xFFFE
  · simp [h1, h2, h3, h4, h5, h6, h7, h8, h9, h10]; omega
  · simp [h1, h2, h3, h4, h5, h6, h7, h8, h9, h10]; omega

theorem eq_ifAddr_iff (addr : Word) : addr = ifAddr ↔ addr.toNat = 0xFF0F :=
  ⟨fun h => by subst h; rfl, fun h => BitVec.eq_of_toNat_eq h⟩

/-- An address is storage exactly by its key: two addresses with one key are both storage, or neither is. -/
theorem writable_iff (addr : Word) :
    Writable addr ↔ 0x8000 ≤ ramKey addr ∧ ¬(0xFEA0 ≤ ramKey addr ∧ ramKey addr ≤ 0xFEFF) := by
  rcases region_range addr with ⟨h, hr⟩ | ⟨h, hr⟩ | ⟨h, hr⟩ | ⟨h, hr⟩ | ⟨h, hr⟩ | ⟨h, hr⟩ | ⟨h, hr⟩ | ⟨h, hr⟩ | ⟨h, hr⟩ |
    ⟨h, hr⟩ | ⟨h, hr⟩ <;> simp [Writable, ramKey, h] <;> omega

theorem ramKey_isRamKey {addr : Word} (hw : Writable addr) (h1 : ramKey addr ≠ 0xFFFF) (h2 : ramKey addr ≠ 0xFF0F) :
    isRamKey (ramKey addr) = true := by
  revert hw h1 h2
  rcases region_range addr with ⟨h, hr⟩ | ⟨h, hr⟩ | ⟨h, hr⟩ | ⟨h, hr⟩ | ⟨h, hr⟩ | ⟨h, hr⟩ | ⟨h, hr⟩ | ⟨h, hr⟩ | ⟨h, hr⟩ |
    ⟨h, hr⟩ | ⟨h, hr⟩ <;> simp [Writable, ramKey, isRamKey, h] <;> omega

/-- What a storage address reads: IE, IF or the RAM cell of its key. -/
theorem busRead_storage (s : State) {addr : Word} (hw : Writable addr) :
    busRead s addr = if ramKey addr = 0xFFFF then s.ie else if ramKey addr = 0xFF0F then s.ifr
      else s.ram.read (ramKey addr) := by
  have hif := eq_ifAddr_iff addr
  revert hw
  rcases region_range addr with ⟨h, hr⟩ | ⟨h, hr⟩ | ⟨h, hr⟩ | ⟨h, hr⟩ | ⟨h, hr⟩ | ⟨h, hr⟩ | ⟨h, hr⟩ | ⟨h, hr⟩ | ⟨h, hr⟩ |
    ⟨h, hr⟩ | ⟨h, hr⟩ <;> simp [Writable, busRead, ramKey, h, hif] <;>
    (repeat' split) <;> first | rfl | omega

/-- What a bus write does at a storage address: IE, IF or the RAM cell of its key. -/
theorem busWrite_storage (s : State) {addr : Word} (v : Byte) (hw : Writable addr) :
    busWrite s addr v = if ramKey addr = 0xFFFF then { s with ie := v } else if ramKey addr = 0xFF0F then { s with ifr := v }
      else { s with ram := s.ram.write (ramKey addr) v } := by
  have hif := eq_ifAddr_iff addr
  revert hw
  rcases region_range addr with ⟨h, hr⟩ | ⟨h, hr⟩ | ⟨h, hr⟩ | ⟨h, hr⟩ | ⟨h, hr⟩ | ⟨h, hr⟩ | ⟨h, hr⟩ | ⟨h, hr⟩ | ⟨h, hr⟩ |
    ⟨h, hr⟩ | ⟨h, hr⟩ <;> simp [Writable, busWrite, ramKey, h, hif] <;>
    (repeat' split) <;> first | rfl | omega

/-- What a bus write does anywhere else: nothing, or the mapper hook (R205, R206, R210). -/
theorem busWrite_elsewhere (s : State) {addr : Word} (v : Byte) (hw : ¬Writable addr) :
    busWrite s addr v =
      if inMapperWindow addr then { s with mstate := mapperWrite s.cfg.mapper s.mstate addr v } else s := by
  revert hw
  rcases region_range addr with ⟨h, hr⟩ | ⟨h, hr⟩ | ⟨h, hr⟩ | ⟨h, hr⟩ | ⟨h, hr⟩ | ⟨h, hr⟩ | ⟨h, hr⟩ | ⟨h, hr⟩ | ⟨h, hr⟩ |
    ⟨h, hr⟩ | ⟨h, hr⟩ <;> simp [Writable, busWrite, inMapperWindow, h] <;> (try omega)
  by_cases h2 : addr.toNat ≤ 0x1FFF
  · have : ¬(0x2000 ≤ addr.toNat ∧ addr.toNat ≤ 0x3FFF) := by omega
    simp [h2, this]
  · have : 0x2000 ≤ addr.toNat ∧ addr.toNat ≤ 0x3FFF := by omega
    simp [h2, this]

@[simp] theorem mapperStart_noMapper : mapperStart .noMapper = 0 := rfl
@[simp] theorem mapperStart_supplied (r : MapperRecord) : mapperStart (.supplied r) = r.mstate0 := rfl
@[simp] theorem mapperBank_noMapper (m : MState) : mapperBank .noMapper m = 1 := rfl
@[simp] theorem mapperBank_supplied (r : MapperRecord) (m : MState) :
    mapperBank (.supplied r) m = mapperTerm m 0 0 r.romBank := rfl
@[simp] theorem mapperWrite_noMapper (m : MState) (addr : Word) (v : Byte) : mapperWrite .noMapper m addr v = m := rfl
@[simp] theorem mapperWrite_supplied (r : MapperRecord) (m : MState) (addr : Word) (v : Byte) :
    mapperWrite (.supplied r) m addr v = mapperTerm m addr.toNat v.toNat r.mapperWrite := rfl

/-- A bus read depends only on IE, IF, ROM, RAM, MSTATE and the parameters. -/
theorem busRead_congr {s t : State} (addr : Word) (h1 : t.ie = s.ie) (h2 : t.ifr = s.ifr) (h3 : t.rom = s.rom)
    (h4 : t.ram = s.ram) (h5 : t.mstate = s.mstate) (h6 : t.cfg = s.cfg) : busRead t addr = busRead s addr := by
  simp only [busRead, romxOffset, h1, h2, h3, h4, h5, h6]

/-- Reading the byte written, under each of its addresses. -/
theorem busRead_busWrite_same {s : State} (hram : s.ram.wf) {target addr : Word} (v : Byte) (hw : Writable target)
    (hk : ramKey addr = ramKey target) : busRead (busWrite s target v) addr = v := by
  have hw' : Writable addr := by rw [writable_iff, hk]; exact (writable_iff target).mp hw
  rw [busRead_storage _ hw', busWrite_storage _ _ hw, hk]
  split
  · rfl
  · split
    · rfl
    · exact Memory.read_write_same hram _ _

/-- Reading any byte that a write cannot reach. -/
theorem busRead_busWrite_other (s : State) {target addr : Word} (v : Byte) (h : ¬reachedBy s.cfg target addr) :
    busRead (busWrite s target v) addr = busRead s addr := by
  simp only [reachedBy, not_or, not_and] at h
  obtain ⟨hk, hx⟩ := h
  by_cases hw : Writable target
  · replace hk := hk hw
    by_cases hw' : Writable addr
    · rw [busRead_storage _ hw', busRead_storage _ hw', busWrite_storage _ _ hw]
      by_cases h1 : ramKey target = 0xFFFF
      · have : ramKey addr ≠ 0xFFFF := fun e => hk (e.trans h1.symm)
        simp [h1, this]
      · by_cases h2 : ramKey target = 0xFF0F
        · have : ramKey addr ≠ 0xFF0F := fun e => hk (e.trans h2.symm)
          simp [h2, this]
        · simp [h1, h2, Memory.read_write_other _ _ (Ne.symm hk)]
    · rw [busWrite_storage _ _ hw]
      revert hw'
      rcases region_range addr with ⟨h, hr⟩ | ⟨h, hr⟩ | ⟨h, hr⟩ | ⟨h, hr⟩ | ⟨h, hr⟩ | ⟨h, hr⟩ | ⟨h, hr⟩ | ⟨h, hr⟩ |
        ⟨h, hr⟩ | ⟨h, hr⟩ | ⟨h, hr⟩ <;> simp [Writable, h] <;> unfold busRead <;> simp only [h] <;>
        (repeat' split) <;> rfl
  · rw [busWrite_elsewhere _ _ hw]
    by_cases hm : inMapperWindow target
    · rw [if_pos hm]
      by_cases hmap : s.cfg.mapper = .noMapper
      · exact busRead_congr addr rfl rfl rfl rfl (by simp [hmap]) rfl
      · have hr : region addr ≠ .romx := hx hmap hm
        unfold busRead
        cases hreg : region addr <;> first | exact absurd hreg hr | simp only []
    · rw [if_neg hm]

/-! #### The canonical form under bus writes -/

theorem busWrite_ram_wf {s : State} (h : s.ram.wf) (addr : Word) (v : Byte) : (busWrite s addr v).ram.wf := by
  unfold busWrite
  split <;> first | exact h | exact Memory.write_wf h _ _ | (split <;> first | exact h | exact Memory.write_wf h _ _)

theorem busWrite_ram_keys {s : State} (h : ∀ x ∈ s.ram, isRamKey x.1 = true) (addr : Word) (v : Byte) :
    ∀ x ∈ (busWrite s addr v).ram, isRamKey x.1 = true := by
  by_cases hw : Writable addr
  · rw [busWrite_storage _ _ hw]
    by_cases h1 : ramKey addr = 0xFFFF
    · simpa [h1] using h
    · by_cases h2 : ramKey addr = 0xFF0F
      · simpa [h2] using h
      · simp only [h1, h2, if_false]
        intro x hx
        rcases Memory.mem_write hx with hx | ⟨rfl, _⟩
        · exact h x hx
        · exact ramKey_isRamKey hw h1 h2
  · rw [busWrite_elsewhere _ _ hw]
    split <;> exact h

/-! ### Registers and operands -/

@[simp] theorem set16_pc (rr : Reg16) (v : Word) (s : State) : (set16 rr v s).pc = s.pc := by cases rr <;> rfl
@[simp] theorem set16_mode (rr : Reg16) (v : Word) (s : State) : (set16 rr v s).mode = s.mode := by cases rr <;> rfl
@[simp] theorem set16_ime (rr : Reg16) (v : Word) (s : State) : (set16 rr v s).ime = s.ime := by cases rr <;> rfl
@[simp] theorem set16_eiPending (rr : Reg16) (v : Word) (s : State) : (set16 rr v s).eiPending = s.eiPending := by cases rr <;> rfl
@[simp] theorem set16_haltBug (rr : Reg16) (v : Word) (s : State) : (set16 rr v s).haltBug = s.haltBug := by cases rr <;> rfl
@[simp] theorem set16_cycles (rr : Reg16) (v : Word) (s : State) : (set16 rr v s).cycles = s.cycles := by cases rr <;> rfl
@[simp] theorem set16_faultInfo (rr : Reg16) (v : Word) (s : State) : (set16 rr v s).faultInfo = s.faultInfo := by cases rr <;> rfl
@[simp] theorem set16_rom (rr : Reg16) (v : Word) (s : State) : (set16 rr v s).rom = s.rom := by cases rr <;> rfl
@[simp] theorem set16_cfg (rr : Reg16) (v : Word) (s : State) : (set16 rr v s).cfg = s.cfg := by cases rr <;> rfl
@[simp] theorem set16_ie (rr : Reg16) (v : Word) (s : State) : (set16 rr v s).ie = s.ie := by cases rr <;> rfl
@[simp] theorem set16_ifr (rr : Reg16) (v : Word) (s : State) : (set16 rr v s).ifr = s.ifr := by cases rr <;> rfl
@[simp] theorem set16_ram (rr : Reg16) (v : Word) (s : State) : (set16 rr v s).ram = s.ram := by cases rr <;> rfl
@[simp] theorem set16_mstate (rr : Reg16) (v : Word) (s : State) : (set16 rr v s).mstate = s.mstate := by cases rr <;> rfl

@[simp] theorem adjustHl_a (delta : Word) (s : State) : (adjustHl delta s).a = s.a := rfl
@[simp] theorem adjustHl_f (delta : Word) (s : State) : (adjustHl delta s).f = s.f := rfl
@[simp] theorem adjustHl_b (delta : Word) (s : State) : (adjustHl delta s).b = s.b := rfl
@[simp] theorem adjustHl_c (delta : Word) (s : State) : (adjustHl delta s).c = s.c := rfl
@[simp] theorem adjustHl_d (delta : Word) (s : State) : (adjustHl delta s).d = s.d := rfl
@[simp] theorem adjustHl_e (delta : Word) (s : State) : (adjustHl delta s).e = s.e := rfl
@[simp] theorem adjustHl_pc (delta : Word) (s : State) : (adjustHl delta s).pc = s.pc := rfl
@[simp] theorem adjustHl_sp (delta : Word) (s : State) : (adjustHl delta s).sp = s.sp := rfl
@[simp] theorem adjustHl_mode (delta : Word) (s : State) : (adjustHl delta s).mode = s.mode := rfl
@[simp] theorem adjustHl_ime (delta : Word) (s : State) : (adjustHl delta s).ime = s.ime := rfl
@[simp] theorem adjustHl_eiPending (delta : Word) (s : State) : (adjustHl delta s).eiPending = s.eiPending := rfl
@[simp] theorem adjustHl_haltBug (delta : Word) (s : State) : (adjustHl delta s).haltBug = s.haltBug := rfl
@[simp] theorem adjustHl_cycles (delta : Word) (s : State) : (adjustHl delta s).cycles = s.cycles := rfl
@[simp] theorem adjustHl_faultInfo (delta : Word) (s : State) : (adjustHl delta s).faultInfo = s.faultInfo := rfl
@[simp] theorem adjustHl_rom (delta : Word) (s : State) : (adjustHl delta s).rom = s.rom := rfl
@[simp] theorem adjustHl_cfg (delta : Word) (s : State) : (adjustHl delta s).cfg = s.cfg := rfl
@[simp] theorem adjustHl_ie (delta : Word) (s : State) : (adjustHl delta s).ie = s.ie := rfl
@[simp] theorem adjustHl_ifr (delta : Word) (s : State) : (adjustHl delta s).ifr = s.ifr := rfl
@[simp] theorem adjustHl_ram (delta : Word) (s : State) : (adjustHl delta s).ram = s.ram := rfl
@[simp] theorem adjustHl_mstate (delta : Word) (s : State) : (adjustHl delta s).mstate = s.mstate := rfl

@[simp] theorem set8_f (r : R8) (v : Byte) (s : State) : (set8 r v s).f = s.f := by cases r <;> simp [set8]
@[simp] theorem set8_pc (r : R8) (v : Byte) (s : State) : (set8 r v s).pc = s.pc := by cases r <;> simp [set8]
@[simp] theorem set8_sp (r : R8) (v : Byte) (s : State) : (set8 r v s).sp = s.sp := by cases r <;> simp [set8]
@[simp] theorem set8_mode (r : R8) (v : Byte) (s : State) : (set8 r v s).mode = s.mode := by cases r <;> simp [set8]
@[simp] theorem set8_ime (r : R8) (v : Byte) (s : State) : (set8 r v s).ime = s.ime := by cases r <;> simp [set8]
@[simp] theorem set8_eiPending (r : R8) (v : Byte) (s : State) : (set8 r v s).eiPending = s.eiPending := by cases r <;> simp [set8]
@[simp] theorem set8_haltBug (r : R8) (v : Byte) (s : State) : (set8 r v s).haltBug = s.haltBug := by cases r <;> simp [set8]
@[simp] theorem set8_cycles (r : R8) (v : Byte) (s : State) : (set8 r v s).cycles = s.cycles := by cases r <;> simp [set8]
@[simp] theorem set8_faultInfo (r : R8) (v : Byte) (s : State) : (set8 r v s).faultInfo = s.faultInfo := by cases r <;> simp [set8]
@[simp] theorem set8_rom (r : R8) (v : Byte) (s : State) : (set8 r v s).rom = s.rom := by cases r <;> simp [set8]
@[simp] theorem set8_cfg (r : R8) (v : Byte) (s : State) : (set8 r v s).cfg = s.cfg := by cases r <;> simp [set8]

@[simp] theorem move8_f (dst src : R8) (s : State) : (move8 dst src s).f = s.f := by simp [move8]
@[simp] theorem move8_pc (dst src : R8) (s : State) : (move8 dst src s).pc = s.pc := by simp [move8]
@[simp] theorem move8_sp (dst src : R8) (s : State) : (move8 dst src s).sp = s.sp := by simp [move8]
@[simp] theorem move8_mode (dst src : R8) (s : State) : (move8 dst src s).mode = s.mode := by simp [move8]
@[simp] theorem move8_ime (dst src : R8) (s : State) : (move8 dst src s).ime = s.ime := by simp [move8]
@[simp] theorem move8_eiPending (dst src : R8) (s : State) : (move8 dst src s).eiPending = s.eiPending := by simp [move8]
@[simp] theorem move8_haltBug (dst src : R8) (s : State) : (move8 dst src s).haltBug = s.haltBug := by simp [move8]
@[simp] theorem move8_cycles (dst src : R8) (s : State) : (move8 dst src s).cycles = s.cycles := by simp [move8]
@[simp] theorem move8_faultInfo (dst src : R8) (s : State) : (move8 dst src s).faultInfo = s.faultInfo := by simp [move8]
@[simp] theorem move8_rom (dst src : R8) (s : State) : (move8 dst src s).rom = s.rom := by simp [move8]
@[simp] theorem move8_cfg (dst src : R8) (s : State) : (move8 dst src s).cfg = s.cfg := by simp [move8]

/-! ### Arithmetic and bits -/

@[simp] theorem aluA_b (op : AluOp) (v : Byte) (s : State) : (aluA op v s).b = s.b := rfl
@[simp] theorem aluA_c (op : AluOp) (v : Byte) (s : State) : (aluA op v s).c = s.c := rfl
@[simp] theorem aluA_d (op : AluOp) (v : Byte) (s : State) : (aluA op v s).d = s.d := rfl
@[simp] theorem aluA_e (op : AluOp) (v : Byte) (s : State) : (aluA op v s).e = s.e := rfl
@[simp] theorem aluA_h (op : AluOp) (v : Byte) (s : State) : (aluA op v s).h = s.h := rfl
@[simp] theorem aluA_l (op : AluOp) (v : Byte) (s : State) : (aluA op v s).l = s.l := rfl
@[simp] theorem aluA_pc (op : AluOp) (v : Byte) (s : State) : (aluA op v s).pc = s.pc := rfl
@[simp] theorem aluA_sp (op : AluOp) (v : Byte) (s : State) : (aluA op v s).sp = s.sp := rfl
@[simp] theorem aluA_mode (op : AluOp) (v : Byte) (s : State) : (aluA op v s).mode = s.mode := rfl
@[simp] theorem aluA_ime (op : AluOp) (v : Byte) (s : State) : (aluA op v s).ime = s.ime := rfl
@[simp] theorem aluA_eiPending (op : AluOp) (v : Byte) (s : State) : (aluA op v s).eiPending = s.eiPending := rfl
@[simp] theorem aluA_haltBug (op : AluOp) (v : Byte) (s : State) : (aluA op v s).haltBug = s.haltBug := rfl
@[simp] theorem aluA_cycles (op : AluOp) (v : Byte) (s : State) : (aluA op v s).cycles = s.cycles := rfl
@[simp] theorem aluA_faultInfo (op : AluOp) (v : Byte) (s : State) : (aluA op v s).faultInfo = s.faultInfo := rfl
@[simp] theorem aluA_rom (op : AluOp) (v : Byte) (s : State) : (aluA op v s).rom = s.rom := rfl
@[simp] theorem aluA_cfg (op : AluOp) (v : Byte) (s : State) : (aluA op v s).cfg = s.cfg := rfl
@[simp] theorem aluA_ie (op : AluOp) (v : Byte) (s : State) : (aluA op v s).ie = s.ie := rfl
@[simp] theorem aluA_ifr (op : AluOp) (v : Byte) (s : State) : (aluA op v s).ifr = s.ifr := rfl
@[simp] theorem aluA_ram (op : AluOp) (v : Byte) (s : State) : (aluA op v s).ram = s.ram := rfl
@[simp] theorem aluA_mstate (op : AluOp) (v : Byte) (s : State) : (aluA op v s).mstate = s.mstate := rfl

@[simp] theorem aluReg_b (op : AluOp) (r : R8) (s : State) : (aluReg op r s).b = s.b := rfl
@[simp] theorem aluReg_c (op : AluOp) (r : R8) (s : State) : (aluReg op r s).c = s.c := rfl
@[simp] theorem aluReg_d (op : AluOp) (r : R8) (s : State) : (aluReg op r s).d = s.d := rfl
@[simp] theorem aluReg_e (op : AluOp) (r : R8) (s : State) : (aluReg op r s).e = s.e := rfl
@[simp] theorem aluReg_h (op : AluOp) (r : R8) (s : State) : (aluReg op r s).h = s.h := rfl
@[simp] theorem aluReg_l (op : AluOp) (r : R8) (s : State) : (aluReg op r s).l = s.l := rfl
@[simp] theorem aluReg_pc (op : AluOp) (r : R8) (s : State) : (aluReg op r s).pc = s.pc := rfl
@[simp] theorem aluReg_sp (op : AluOp) (r : R8) (s : State) : (aluReg op r s).sp = s.sp := rfl
@[simp] theorem aluReg_mode (op : AluOp) (r : R8) (s : State) : (aluReg op r s).mode = s.mode := rfl
@[simp] theorem aluReg_ime (op : AluOp) (r : R8) (s : State) : (aluReg op r s).ime = s.ime := rfl
@[simp] theorem aluReg_eiPending (op : AluOp) (r : R8) (s : State) : (aluReg op r s).eiPending = s.eiPending := rfl
@[simp] theorem aluReg_haltBug (op : AluOp) (r : R8) (s : State) : (aluReg op r s).haltBug = s.haltBug := rfl
@[simp] theorem aluReg_cycles (op : AluOp) (r : R8) (s : State) : (aluReg op r s).cycles = s.cycles := rfl
@[simp] theorem aluReg_faultInfo (op : AluOp) (r : R8) (s : State) : (aluReg op r s).faultInfo = s.faultInfo := rfl
@[simp] theorem aluReg_rom (op : AluOp) (r : R8) (s : State) : (aluReg op r s).rom = s.rom := rfl
@[simp] theorem aluReg_cfg (op : AluOp) (r : R8) (s : State) : (aluReg op r s).cfg = s.cfg := rfl
@[simp] theorem aluReg_ie (op : AluOp) (r : R8) (s : State) : (aluReg op r s).ie = s.ie := rfl
@[simp] theorem aluReg_ifr (op : AluOp) (r : R8) (s : State) : (aluReg op r s).ifr = s.ifr := rfl
@[simp] theorem aluReg_ram (op : AluOp) (r : R8) (s : State) : (aluReg op r s).ram = s.ram := rfl
@[simp] theorem aluReg_mstate (op : AluOp) (r : R8) (s : State) : (aluReg op r s).mstate = s.mstate := rfl

@[simp] theorem inc8_pc (r : R8) (s : State) : (inc8 r s).pc = s.pc := by simp [inc8]
@[simp] theorem inc8_sp (r : R8) (s : State) : (inc8 r s).sp = s.sp := by simp [inc8]
@[simp] theorem inc8_mode (r : R8) (s : State) : (inc8 r s).mode = s.mode := by simp [inc8]
@[simp] theorem inc8_ime (r : R8) (s : State) : (inc8 r s).ime = s.ime := by simp [inc8]
@[simp] theorem inc8_eiPending (r : R8) (s : State) : (inc8 r s).eiPending = s.eiPending := by simp [inc8]
@[simp] theorem inc8_haltBug (r : R8) (s : State) : (inc8 r s).haltBug = s.haltBug := by simp [inc8]
@[simp] theorem inc8_cycles (r : R8) (s : State) : (inc8 r s).cycles = s.cycles := by simp [inc8]
@[simp] theorem inc8_faultInfo (r : R8) (s : State) : (inc8 r s).faultInfo = s.faultInfo := by simp [inc8]
@[simp] theorem inc8_rom (r : R8) (s : State) : (inc8 r s).rom = s.rom := by simp [inc8]
@[simp] theorem inc8_cfg (r : R8) (s : State) : (inc8 r s).cfg = s.cfg := by simp [inc8]

@[simp] theorem dec8_pc (r : R8) (s : State) : (dec8 r s).pc = s.pc := by simp [dec8]
@[simp] theorem dec8_sp (r : R8) (s : State) : (dec8 r s).sp = s.sp := by simp [dec8]
@[simp] theorem dec8_mode (r : R8) (s : State) : (dec8 r s).mode = s.mode := by simp [dec8]
@[simp] theorem dec8_ime (r : R8) (s : State) : (dec8 r s).ime = s.ime := by simp [dec8]
@[simp] theorem dec8_eiPending (r : R8) (s : State) : (dec8 r s).eiPending = s.eiPending := by simp [dec8]
@[simp] theorem dec8_haltBug (r : R8) (s : State) : (dec8 r s).haltBug = s.haltBug := by simp [dec8]
@[simp] theorem dec8_cycles (r : R8) (s : State) : (dec8 r s).cycles = s.cycles := by simp [dec8]
@[simp] theorem dec8_faultInfo (r : R8) (s : State) : (dec8 r s).faultInfo = s.faultInfo := by simp [dec8]
@[simp] theorem dec8_rom (r : R8) (s : State) : (dec8 r s).rom = s.rom := by simp [dec8]
@[simp] theorem dec8_cfg (r : R8) (s : State) : (dec8 r s).cfg = s.cfg := by simp [dec8]

@[simp] theorem daaA_b (s : State) : (daaA s).b = s.b := rfl
@[simp] theorem daaA_c (s : State) : (daaA s).c = s.c := rfl
@[simp] theorem daaA_d (s : State) : (daaA s).d = s.d := rfl
@[simp] theorem daaA_e (s : State) : (daaA s).e = s.e := rfl
@[simp] theorem daaA_h (s : State) : (daaA s).h = s.h := rfl
@[simp] theorem daaA_l (s : State) : (daaA s).l = s.l := rfl
@[simp] theorem daaA_pc (s : State) : (daaA s).pc = s.pc := rfl
@[simp] theorem daaA_sp (s : State) : (daaA s).sp = s.sp := rfl
@[simp] theorem daaA_mode (s : State) : (daaA s).mode = s.mode := rfl
@[simp] theorem daaA_ime (s : State) : (daaA s).ime = s.ime := rfl
@[simp] theorem daaA_eiPending (s : State) : (daaA s).eiPending = s.eiPending := rfl
@[simp] theorem daaA_haltBug (s : State) : (daaA s).haltBug = s.haltBug := rfl
@[simp] theorem daaA_cycles (s : State) : (daaA s).cycles = s.cycles := rfl
@[simp] theorem daaA_faultInfo (s : State) : (daaA s).faultInfo = s.faultInfo := rfl
@[simp] theorem daaA_rom (s : State) : (daaA s).rom = s.rom := rfl
@[simp] theorem daaA_cfg (s : State) : (daaA s).cfg = s.cfg := rfl
@[simp] theorem daaA_ie (s : State) : (daaA s).ie = s.ie := rfl
@[simp] theorem daaA_ifr (s : State) : (daaA s).ifr = s.ifr := rfl
@[simp] theorem daaA_ram (s : State) : (daaA s).ram = s.ram := rfl
@[simp] theorem daaA_mstate (s : State) : (daaA s).mstate = s.mstate := rfl

@[simp] theorem addHl_a (rr : Reg16) (s : State) : (addHl rr s).a = s.a := rfl
@[simp] theorem addHl_b (rr : Reg16) (s : State) : (addHl rr s).b = s.b := rfl
@[simp] theorem addHl_c (rr : Reg16) (s : State) : (addHl rr s).c = s.c := rfl
@[simp] theorem addHl_d (rr : Reg16) (s : State) : (addHl rr s).d = s.d := rfl
@[simp] theorem addHl_e (rr : Reg16) (s : State) : (addHl rr s).e = s.e := rfl
@[simp] theorem addHl_pc (rr : Reg16) (s : State) : (addHl rr s).pc = s.pc := rfl
@[simp] theorem addHl_sp (rr : Reg16) (s : State) : (addHl rr s).sp = s.sp := rfl
@[simp] theorem addHl_mode (rr : Reg16) (s : State) : (addHl rr s).mode = s.mode := rfl
@[simp] theorem addHl_ime (rr : Reg16) (s : State) : (addHl rr s).ime = s.ime := rfl
@[simp] theorem addHl_eiPending (rr : Reg16) (s : State) : (addHl rr s).eiPending = s.eiPending := rfl
@[simp] theorem addHl_haltBug (rr : Reg16) (s : State) : (addHl rr s).haltBug = s.haltBug := rfl
@[simp] theorem addHl_cycles (rr : Reg16) (s : State) : (addHl rr s).cycles = s.cycles := rfl
@[simp] theorem addHl_faultInfo (rr : Reg16) (s : State) : (addHl rr s).faultInfo = s.faultInfo := rfl
@[simp] theorem addHl_rom (rr : Reg16) (s : State) : (addHl rr s).rom = s.rom := rfl
@[simp] theorem addHl_cfg (rr : Reg16) (s : State) : (addHl rr s).cfg = s.cfg := rfl
@[simp] theorem addHl_ie (rr : Reg16) (s : State) : (addHl rr s).ie = s.ie := rfl
@[simp] theorem addHl_ifr (rr : Reg16) (s : State) : (addHl rr s).ifr = s.ifr := rfl
@[simp] theorem addHl_ram (rr : Reg16) (s : State) : (addHl rr s).ram = s.ram := rfl
@[simp] theorem addHl_mstate (rr : Reg16) (s : State) : (addHl rr s).mstate = s.mstate := rfl

@[simp] theorem spPlus_pc (dst : Reg16) (e : Byte) (s : State) : (spPlus dst e s).pc = s.pc := by simp [spPlus]
@[simp] theorem spPlus_mode (dst : Reg16) (e : Byte) (s : State) : (spPlus dst e s).mode = s.mode := by simp [spPlus]
@[simp] theorem spPlus_ime (dst : Reg16) (e : Byte) (s : State) : (spPlus dst e s).ime = s.ime := by simp [spPlus]
@[simp] theorem spPlus_eiPending (dst : Reg16) (e : Byte) (s : State) : (spPlus dst e s).eiPending = s.eiPending := by simp [spPlus]
@[simp] theorem spPlus_haltBug (dst : Reg16) (e : Byte) (s : State) : (spPlus dst e s).haltBug = s.haltBug := by simp [spPlus]
@[simp] theorem spPlus_cycles (dst : Reg16) (e : Byte) (s : State) : (spPlus dst e s).cycles = s.cycles := by simp [spPlus]
@[simp] theorem spPlus_faultInfo (dst : Reg16) (e : Byte) (s : State) : (spPlus dst e s).faultInfo = s.faultInfo := by simp [spPlus]
@[simp] theorem spPlus_rom (dst : Reg16) (e : Byte) (s : State) : (spPlus dst e s).rom = s.rom := by simp [spPlus]
@[simp] theorem spPlus_cfg (dst : Reg16) (e : Byte) (s : State) : (spPlus dst e s).cfg = s.cfg := by simp [spPlus]
@[simp] theorem spPlus_ie (dst : Reg16) (e : Byte) (s : State) : (spPlus dst e s).ie = s.ie := by simp [spPlus]
@[simp] theorem spPlus_ifr (dst : Reg16) (e : Byte) (s : State) : (spPlus dst e s).ifr = s.ifr := by simp [spPlus]
@[simp] theorem spPlus_ram (dst : Reg16) (e : Byte) (s : State) : (spPlus dst e s).ram = s.ram := by simp [spPlus]
@[simp] theorem spPlus_mstate (dst : Reg16) (e : Byte) (s : State) : (spPlus dst e s).mstate = s.mstate := by simp [spPlus]

@[simp] theorem rotateA_b (op : RotOp) (s : State) : (rotateA op s).b = s.b := rfl
@[simp] theorem rotateA_c (op : RotOp) (s : State) : (rotateA op s).c = s.c := rfl
@[simp] theorem rotateA_d (op : RotOp) (s : State) : (rotateA op s).d = s.d := rfl
@[simp] theorem rotateA_e (op : RotOp) (s : State) : (rotateA op s).e = s.e := rfl
@[simp] theorem rotateA_h (op : RotOp) (s : State) : (rotateA op s).h = s.h := rfl
@[simp] theorem rotateA_l (op : RotOp) (s : State) : (rotateA op s).l = s.l := rfl
@[simp] theorem rotateA_pc (op : RotOp) (s : State) : (rotateA op s).pc = s.pc := rfl
@[simp] theorem rotateA_sp (op : RotOp) (s : State) : (rotateA op s).sp = s.sp := rfl
@[simp] theorem rotateA_mode (op : RotOp) (s : State) : (rotateA op s).mode = s.mode := rfl
@[simp] theorem rotateA_ime (op : RotOp) (s : State) : (rotateA op s).ime = s.ime := rfl
@[simp] theorem rotateA_eiPending (op : RotOp) (s : State) : (rotateA op s).eiPending = s.eiPending := rfl
@[simp] theorem rotateA_haltBug (op : RotOp) (s : State) : (rotateA op s).haltBug = s.haltBug := rfl
@[simp] theorem rotateA_cycles (op : RotOp) (s : State) : (rotateA op s).cycles = s.cycles := rfl
@[simp] theorem rotateA_faultInfo (op : RotOp) (s : State) : (rotateA op s).faultInfo = s.faultInfo := rfl
@[simp] theorem rotateA_rom (op : RotOp) (s : State) : (rotateA op s).rom = s.rom := rfl
@[simp] theorem rotateA_cfg (op : RotOp) (s : State) : (rotateA op s).cfg = s.cfg := rfl
@[simp] theorem rotateA_ie (op : RotOp) (s : State) : (rotateA op s).ie = s.ie := rfl
@[simp] theorem rotateA_ifr (op : RotOp) (s : State) : (rotateA op s).ifr = s.ifr := rfl
@[simp] theorem rotateA_ram (op : RotOp) (s : State) : (rotateA op s).ram = s.ram := rfl
@[simp] theorem rotateA_mstate (op : RotOp) (s : State) : (rotateA op s).mstate = s.mstate := rfl

@[simp] theorem cbRotate_pc (op : RotOp) (r : R8) (s : State) : (cbRotate op r s).pc = s.pc := by simp [cbRotate]
@[simp] theorem cbRotate_sp (op : RotOp) (r : R8) (s : State) : (cbRotate op r s).sp = s.sp := by simp [cbRotate]
@[simp] theorem cbRotate_mode (op : RotOp) (r : R8) (s : State) : (cbRotate op r s).mode = s.mode := by simp [cbRotate]
@[simp] theorem cbRotate_ime (op : RotOp) (r : R8) (s : State) : (cbRotate op r s).ime = s.ime := by simp [cbRotate]
@[simp] theorem cbRotate_eiPending (op : RotOp) (r : R8) (s : State) : (cbRotate op r s).eiPending = s.eiPending := by simp [cbRotate]
@[simp] theorem cbRotate_haltBug (op : RotOp) (r : R8) (s : State) : (cbRotate op r s).haltBug = s.haltBug := by simp [cbRotate]
@[simp] theorem cbRotate_cycles (op : RotOp) (r : R8) (s : State) : (cbRotate op r s).cycles = s.cycles := by simp [cbRotate]
@[simp] theorem cbRotate_faultInfo (op : RotOp) (r : R8) (s : State) : (cbRotate op r s).faultInfo = s.faultInfo := by simp [cbRotate]
@[simp] theorem cbRotate_rom (op : RotOp) (r : R8) (s : State) : (cbRotate op r s).rom = s.rom := by simp [cbRotate]
@[simp] theorem cbRotate_cfg (op : RotOp) (r : R8) (s : State) : (cbRotate op r s).cfg = s.cfg := by simp [cbRotate]

@[simp] theorem cbBit_a (b : Nat) (r : R8) (s : State) : (cbBit b r s).a = s.a := rfl
@[simp] theorem cbBit_b (b : Nat) (r : R8) (s : State) : (cbBit b r s).b = s.b := rfl
@[simp] theorem cbBit_c (b : Nat) (r : R8) (s : State) : (cbBit b r s).c = s.c := rfl
@[simp] theorem cbBit_d (b : Nat) (r : R8) (s : State) : (cbBit b r s).d = s.d := rfl
@[simp] theorem cbBit_e (b : Nat) (r : R8) (s : State) : (cbBit b r s).e = s.e := rfl
@[simp] theorem cbBit_h (b : Nat) (r : R8) (s : State) : (cbBit b r s).h = s.h := rfl
@[simp] theorem cbBit_l (b : Nat) (r : R8) (s : State) : (cbBit b r s).l = s.l := rfl
@[simp] theorem cbBit_pc (b : Nat) (r : R8) (s : State) : (cbBit b r s).pc = s.pc := rfl
@[simp] theorem cbBit_sp (b : Nat) (r : R8) (s : State) : (cbBit b r s).sp = s.sp := rfl
@[simp] theorem cbBit_mode (b : Nat) (r : R8) (s : State) : (cbBit b r s).mode = s.mode := rfl
@[simp] theorem cbBit_ime (b : Nat) (r : R8) (s : State) : (cbBit b r s).ime = s.ime := rfl
@[simp] theorem cbBit_eiPending (b : Nat) (r : R8) (s : State) : (cbBit b r s).eiPending = s.eiPending := rfl
@[simp] theorem cbBit_haltBug (b : Nat) (r : R8) (s : State) : (cbBit b r s).haltBug = s.haltBug := rfl
@[simp] theorem cbBit_cycles (b : Nat) (r : R8) (s : State) : (cbBit b r s).cycles = s.cycles := rfl
@[simp] theorem cbBit_faultInfo (b : Nat) (r : R8) (s : State) : (cbBit b r s).faultInfo = s.faultInfo := rfl
@[simp] theorem cbBit_rom (b : Nat) (r : R8) (s : State) : (cbBit b r s).rom = s.rom := rfl
@[simp] theorem cbBit_cfg (b : Nat) (r : R8) (s : State) : (cbBit b r s).cfg = s.cfg := rfl
@[simp] theorem cbBit_ie (b : Nat) (r : R8) (s : State) : (cbBit b r s).ie = s.ie := rfl
@[simp] theorem cbBit_ifr (b : Nat) (r : R8) (s : State) : (cbBit b r s).ifr = s.ifr := rfl
@[simp] theorem cbBit_ram (b : Nat) (r : R8) (s : State) : (cbBit b r s).ram = s.ram := rfl
@[simp] theorem cbBit_mstate (b : Nat) (r : R8) (s : State) : (cbBit b r s).mstate = s.mstate := rfl

@[simp] theorem cbRes_f (b : Nat) (r : R8) (s : State) : (cbRes b r s).f = s.f := by simp [cbRes]
@[simp] theorem cbRes_pc (b : Nat) (r : R8) (s : State) : (cbRes b r s).pc = s.pc := by simp [cbRes]
@[simp] theorem cbRes_sp (b : Nat) (r : R8) (s : State) : (cbRes b r s).sp = s.sp := by simp [cbRes]
@[simp] theorem cbRes_mode (b : Nat) (r : R8) (s : State) : (cbRes b r s).mode = s.mode := by simp [cbRes]
@[simp] theorem cbRes_ime (b : Nat) (r : R8) (s : State) : (cbRes b r s).ime = s.ime := by simp [cbRes]
@[simp] theorem cbRes_eiPending (b : Nat) (r : R8) (s : State) : (cbRes b r s).eiPending = s.eiPending := by simp [cbRes]
@[simp] theorem cbRes_haltBug (b : Nat) (r : R8) (s : State) : (cbRes b r s).haltBug = s.haltBug := by simp [cbRes]
@[simp] theorem cbRes_cycles (b : Nat) (r : R8) (s : State) : (cbRes b r s).cycles = s.cycles := by simp [cbRes]
@[simp] theorem cbRes_faultInfo (b : Nat) (r : R8) (s : State) : (cbRes b r s).faultInfo = s.faultInfo := by simp [cbRes]
@[simp] theorem cbRes_rom (b : Nat) (r : R8) (s : State) : (cbRes b r s).rom = s.rom := by simp [cbRes]
@[simp] theorem cbRes_cfg (b : Nat) (r : R8) (s : State) : (cbRes b r s).cfg = s.cfg := by simp [cbRes]

@[simp] theorem cbSet_f (b : Nat) (r : R8) (s : State) : (cbSet b r s).f = s.f := by simp [cbSet]
@[simp] theorem cbSet_pc (b : Nat) (r : R8) (s : State) : (cbSet b r s).pc = s.pc := by simp [cbSet]
@[simp] theorem cbSet_sp (b : Nat) (r : R8) (s : State) : (cbSet b r s).sp = s.sp := by simp [cbSet]
@[simp] theorem cbSet_mode (b : Nat) (r : R8) (s : State) : (cbSet b r s).mode = s.mode := by simp [cbSet]
@[simp] theorem cbSet_ime (b : Nat) (r : R8) (s : State) : (cbSet b r s).ime = s.ime := by simp [cbSet]
@[simp] theorem cbSet_eiPending (b : Nat) (r : R8) (s : State) : (cbSet b r s).eiPending = s.eiPending := by simp [cbSet]
@[simp] theorem cbSet_haltBug (b : Nat) (r : R8) (s : State) : (cbSet b r s).haltBug = s.haltBug := by simp [cbSet]
@[simp] theorem cbSet_cycles (b : Nat) (r : R8) (s : State) : (cbSet b r s).cycles = s.cycles := by simp [cbSet]
@[simp] theorem cbSet_faultInfo (b : Nat) (r : R8) (s : State) : (cbSet b r s).faultInfo = s.faultInfo := by simp [cbSet]
@[simp] theorem cbSet_rom (b : Nat) (r : R8) (s : State) : (cbSet b r s).rom = s.rom := by simp [cbSet]
@[simp] theorem cbSet_cfg (b : Nat) (r : R8) (s : State) : (cbSet b r s).cfg = s.cfg := by simp [cbSet]

@[simp] theorem cbEffect_pc (code : Byte) (s : State) : (cbEffect code s).pc = s.pc := by unfold cbEffect; split <;> simp
@[simp] theorem cbEffect_sp (code : Byte) (s : State) : (cbEffect code s).sp = s.sp := by unfold cbEffect; split <;> simp
@[simp] theorem cbEffect_mode (code : Byte) (s : State) : (cbEffect code s).mode = s.mode := by unfold cbEffect; split <;> simp
@[simp] theorem cbEffect_ime (code : Byte) (s : State) : (cbEffect code s).ime = s.ime := by unfold cbEffect; split <;> simp
@[simp] theorem cbEffect_eiPending (code : Byte) (s : State) : (cbEffect code s).eiPending = s.eiPending := by unfold cbEffect; split <;> simp
@[simp] theorem cbEffect_haltBug (code : Byte) (s : State) : (cbEffect code s).haltBug = s.haltBug := by unfold cbEffect; split <;> simp
@[simp] theorem cbEffect_cycles (code : Byte) (s : State) : (cbEffect code s).cycles = s.cycles := by unfold cbEffect; split <;> simp
@[simp] theorem cbEffect_faultInfo (code : Byte) (s : State) : (cbEffect code s).faultInfo = s.faultInfo := by unfold cbEffect; split <;> simp
@[simp] theorem cbEffect_rom (code : Byte) (s : State) : (cbEffect code s).rom = s.rom := by unfold cbEffect; split <;> simp
@[simp] theorem cbEffect_cfg (code : Byte) (s : State) : (cbEffect code s).cfg = s.cfg := by unfold cbEffect; split <;> simp

/-! ### The stack and control transfer -/

@[simp] theorem push16_a (v : Word) (s : State) : (push16 v s).a = s.a := by simp [push16]
@[simp] theorem push16_f (v : Word) (s : State) : (push16 v s).f = s.f := by simp [push16]
@[simp] theorem push16_b (v : Word) (s : State) : (push16 v s).b = s.b := by simp [push16]
@[simp] theorem push16_c (v : Word) (s : State) : (push16 v s).c = s.c := by simp [push16]
@[simp] theorem push16_d (v : Word) (s : State) : (push16 v s).d = s.d := by simp [push16]
@[simp] theorem push16_e (v : Word) (s : State) : (push16 v s).e = s.e := by simp [push16]
@[simp] theorem push16_h (v : Word) (s : State) : (push16 v s).h = s.h := by simp [push16]
@[simp] theorem push16_l (v : Word) (s : State) : (push16 v s).l = s.l := by simp [push16]
@[simp] theorem push16_pc (v : Word) (s : State) : (push16 v s).pc = s.pc := by simp [push16]
@[simp] theorem push16_mode (v : Word) (s : State) : (push16 v s).mode = s.mode := by simp [push16]
@[simp] theorem push16_ime (v : Word) (s : State) : (push16 v s).ime = s.ime := by simp [push16]
@[simp] theorem push16_eiPending (v : Word) (s : State) : (push16 v s).eiPending = s.eiPending := by simp [push16]
@[simp] theorem push16_haltBug (v : Word) (s : State) : (push16 v s).haltBug = s.haltBug := by simp [push16]
@[simp] theorem push16_cycles (v : Word) (s : State) : (push16 v s).cycles = s.cycles := by simp [push16]
@[simp] theorem push16_faultInfo (v : Word) (s : State) : (push16 v s).faultInfo = s.faultInfo := by simp [push16]
@[simp] theorem push16_rom (v : Word) (s : State) : (push16 v s).rom = s.rom := by simp [push16]
@[simp] theorem push16_cfg (v : Word) (s : State) : (push16 v s).cfg = s.cfg := by simp [push16]

@[simp] theorem push16_sp (v : Word) (s : State) : (push16 v s).sp = s.sp - 1 - 1 := by simp [push16]

@[simp] theorem pop16To_pc (rr : Reg16) (s : State) : (pop16To rr s).pc = s.pc := by simp [pop16To]
@[simp] theorem pop16To_mode (rr : Reg16) (s : State) : (pop16To rr s).mode = s.mode := by simp [pop16To]
@[simp] theorem pop16To_ime (rr : Reg16) (s : State) : (pop16To rr s).ime = s.ime := by simp [pop16To]
@[simp] theorem pop16To_eiPending (rr : Reg16) (s : State) : (pop16To rr s).eiPending = s.eiPending := by simp [pop16To]
@[simp] theorem pop16To_haltBug (rr : Reg16) (s : State) : (pop16To rr s).haltBug = s.haltBug := by simp [pop16To]
@[simp] theorem pop16To_cycles (rr : Reg16) (s : State) : (pop16To rr s).cycles = s.cycles := by simp [pop16To]
@[simp] theorem pop16To_faultInfo (rr : Reg16) (s : State) : (pop16To rr s).faultInfo = s.faultInfo := by simp [pop16To]
@[simp] theorem pop16To_rom (rr : Reg16) (s : State) : (pop16To rr s).rom = s.rom := by simp [pop16To]
@[simp] theorem pop16To_cfg (rr : Reg16) (s : State) : (pop16To rr s).cfg = s.cfg := by simp [pop16To]
@[simp] theorem pop16To_ie (rr : Reg16) (s : State) : (pop16To rr s).ie = s.ie := by simp [pop16To]
@[simp] theorem pop16To_ifr (rr : Reg16) (s : State) : (pop16To rr s).ifr = s.ifr := by simp [pop16To]
@[simp] theorem pop16To_ram (rr : Reg16) (s : State) : (pop16To rr s).ram = s.ram := by simp [pop16To]
@[simp] theorem pop16To_mstate (rr : Reg16) (s : State) : (pop16To rr s).mstate = s.mstate := by simp [pop16To]

@[simp] theorem callTo_a (t : Word) (s : State) : (callTo t s).a = s.a := by simp [callTo]
@[simp] theorem callTo_f (t : Word) (s : State) : (callTo t s).f = s.f := by simp [callTo]
@[simp] theorem callTo_b (t : Word) (s : State) : (callTo t s).b = s.b := by simp [callTo]
@[simp] theorem callTo_c (t : Word) (s : State) : (callTo t s).c = s.c := by simp [callTo]
@[simp] theorem callTo_d (t : Word) (s : State) : (callTo t s).d = s.d := by simp [callTo]
@[simp] theorem callTo_e (t : Word) (s : State) : (callTo t s).e = s.e := by simp [callTo]
@[simp] theorem callTo_h (t : Word) (s : State) : (callTo t s).h = s.h := by simp [callTo]
@[simp] theorem callTo_l (t : Word) (s : State) : (callTo t s).l = s.l := by simp [callTo]
@[simp] theorem callTo_mode (t : Word) (s : State) : (callTo t s).mode = s.mode := by simp [callTo]
@[simp] theorem callTo_ime (t : Word) (s : State) : (callTo t s).ime = s.ime := by simp [callTo]
@[simp] theorem callTo_eiPending (t : Word) (s : State) : (callTo t s).eiPending = s.eiPending := by simp [callTo]
@[simp] theorem callTo_haltBug (t : Word) (s : State) : (callTo t s).haltBug = s.haltBug := by simp [callTo]
@[simp] theorem callTo_cycles (t : Word) (s : State) : (callTo t s).cycles = s.cycles := by simp [callTo]
@[simp] theorem callTo_faultInfo (t : Word) (s : State) : (callTo t s).faultInfo = s.faultInfo := by simp [callTo]
@[simp] theorem callTo_rom (t : Word) (s : State) : (callTo t s).rom = s.rom := by simp [callTo]
@[simp] theorem callTo_cfg (t : Word) (s : State) : (callTo t s).cfg = s.cfg := by simp [callTo]

@[simp] theorem callTo_pc (t : Word) (s : State) : (callTo t s).pc = t := rfl
@[simp] theorem callTo_sp (t : Word) (s : State) : (callTo t s).sp = s.sp - 1 - 1 := by simp [callTo]

/-- A conditional action leaves alone what the action leaves alone. -/
theorem when_field {α : Type} (g : State → α) (cc : Cond) (act : State → State) (s : State)
    (h : g (act s) = g s) : g (when cc act s) = g s := by
  unfold when; split <;> simp_all

end Sys2Proof.Machine
end

