-- ==== Sys2Proof/Laws/Frames.lean ====
section
/-!
SUPPORT. The memory side of a state as one value, and what a statement's frame needs of it: operations that leave memory
alone, and what one and two bus writes store and reach.
-/

namespace Sys2Proof.Machine

/-- What a bus read depends on. -/
structure MemView where
  ie : Byte
  ifr : Byte
  rom : Memory
  ram : Memory
  mstate : MState
  cfg : Config

def State.mem (s : State) : MemView := ⟨s.ie, s.ifr, s.rom, s.ram, s.mstate, s.cfg⟩

theorem State.mem_eq_iff {s t : State} : t.mem = s.mem ↔
    t.ie = s.ie ∧ t.ifr = s.ifr ∧ t.rom = s.rom ∧ t.ram = s.ram ∧ t.mstate = s.mstate ∧ t.cfg = s.cfg := by
  simp [State.mem]

theorem busRead_mem {s t : State} (h : t.mem = s.mem) (addr : Word) : busRead t addr = busRead s addr := by
  obtain ⟨h1, h2, h3, h4, h5, h6⟩ := State.mem_eq_iff.mp h
  exact busRead_congr addr h1 h2 h3 h4 h5 h6

theorem sameMemory_of_mem {s t : State} (h : t.mem = s.mem) : SameMemory s t :=
  ⟨busRead_mem h, (State.mem_eq_iff.mp h).2.2.2.2.1⟩

/-- What a bus write does to memory depends on memory only. -/
theorem busWrite_mem {s t : State} (h : t.mem = s.mem) (addr : Word) (v : Byte) :
    (busWrite t addr v).mem = (busWrite s addr v).mem := by
  obtain ⟨h1, h2, h3, h4, h5, h6⟩ := State.mem_eq_iff.mp h
  unfold busWrite
  split <;> (try split) <;> simp [State.mem, h1, h2, h3, h4, h5, h6]

theorem busWrite_mstate (s : State) (addr : Word) (v : Byte) :
    (busWrite s addr v).mstate = hook s.cfg s.mstate addr v := by
  by_cases hw : Writable addr
  · have : ¬inMapperWindow addr := by
      intro hm
      have h1 : region addr = .rom0 := by unfold region; rw [if_pos hm.2]
      exact hw.1 h1
    rw [busWrite_storage _ _ hw, hook, if_neg this]
    split <;> first | rfl | (split <;> rfl)
  · rw [busWrite_elsewhere _ _ hw, hook]
    split <;> rfl

theorem busWrite_ie_of_ne (s : State) {addr : Word} (v : Byte) (h : addr ≠ 0xFFFF) : (busWrite s addr v).ie = s.ie := by
  unfold busWrite
  rcases region_range addr with ⟨hr, hn⟩ | ⟨hr, hn⟩ | ⟨hr, hn⟩ | ⟨hr, hn⟩ | ⟨hr, hn⟩ | ⟨hr, hn⟩ | ⟨hr, hn⟩ | ⟨hr, hn⟩ |
    ⟨hr, hn⟩ | ⟨hr, hn⟩ | ⟨hr, hn⟩ <;> simp only [hr] <;> (try split) <;>
    first | rfl | exact absurd (BitVec.eq_of_toNat_eq hn) h

theorem busWrite_ifr_of_ne (s : State) {addr : Word} (v : Byte) (h : addr ≠ 0xFF0F) : (busWrite s addr v).ifr = s.ifr := by
  have h' : ¬addr = ifAddr := h
  unfold busWrite
  rcases region_range addr with ⟨hr, hn⟩ | ⟨hr, hn⟩ | ⟨hr, hn⟩ | ⟨hr, hn⟩ | ⟨hr, hn⟩ | ⟨hr, hn⟩ | ⟨hr, hn⟩ | ⟨hr, hn⟩ |
    ⟨hr, hn⟩ | ⟨hr, hn⟩ | ⟨hr, hn⟩ <;> simp only [hr] <;> first | rfl | (rw [if_neg h']) | (split <;> rfl)

/-- A state whose memory is that after one bus write. -/
theorem storesByte_of_mem {s t : State} {target : Word} {v : Byte} (h : t.mem = (busWrite s target v).mem) :
    StoresByte target v s t := by
  refine ⟨fun hram hw addr hk => ?_, fun addr hr => ?_, ?_⟩
  · rw [busRead_mem h, busRead_busWrite_same hram v hw hk]
  · rw [busRead_mem h, busRead_busWrite_other s v hr]
  · rw [(State.mem_eq_iff.mp h).2.2.2.2.1, busWrite_mstate]

/-- Neighbouring storage addresses are two bytes. -/
theorem ramKey_succ_ne {addr : Word} (h1 : Writable addr) (h2 : Writable (addr + 1)) : ramKey (addr + 1) ≠ ramKey addr := by
  have hadd : (addr + 1).toNat = (addr.toNat + 1) % 65536 := by simp [BitVec.toNat_add]
  have hlt := addr.isLt
  revert h1 h2
  rcases region_range addr with ⟨h, hr⟩ | ⟨h, hr⟩ | ⟨h, hr⟩ | ⟨h, hr⟩ | ⟨h, hr⟩ | ⟨h, hr⟩ | ⟨h, hr⟩ | ⟨h, hr⟩ | ⟨h, hr⟩ |
    ⟨h, hr⟩ | ⟨h, hr⟩ <;>
  rcases region_range (addr + 1) with ⟨h', hr'⟩ | ⟨h', hr'⟩ | ⟨h', hr'⟩ | ⟨h', hr'⟩ | ⟨h', hr'⟩ | ⟨h', hr'⟩ | ⟨h', hr'⟩ |
    ⟨h', hr'⟩ | ⟨h', hr'⟩ | ⟨h', hr'⟩ | ⟨h', hr'⟩ <;>
  simp only [Writable, ramKey, h, h', hadd, reduceCtorEq, not_false_eq_true, not_true_eq_false, ne_eq,
    and_false, and_true, false_implies, implies_true, forall_const, if_true, if_false] <;> omega

/-- A state whose memory is that after two bus writes to bytes that are not one. -/
theorem storesTwo_of_mem {s t : State} {first second : Word} {u v : Byte}
    (h : t.mem = (busWrite (busWrite s first u) second v).mem)
    (hne : Writable first → Writable second → ramKey second ≠ ramKey first) : StoresTwo first u second v s t := by
  have hcfg : (busWrite s first u).cfg = s.cfg := busWrite_cfg s first u
  refine ⟨fun hram hw addr hk => ?_, fun hram hw addr hk => ?_, fun addr hr1 hr2 => ?_, ?_⟩
  · rw [busRead_mem h, busRead_busWrite_other, busRead_busWrite_same hram u hw hk]
    rintro (⟨hw2, hk2⟩ | ⟨_, _, hx⟩)
    · exact hne hw hw2 (hk2.symm.trans hk)
    · have hwa : Writable addr := by rw [writable_iff, hk]; exact (writable_iff first).mp hw
      exact hwa.2.1 hx
  · rw [busRead_mem h, busRead_busWrite_same (busWrite_ram_wf hram first u) v hw hk]
  · rw [busRead_mem h, busRead_busWrite_other _ v (by rw [hcfg]; exact hr2), busRead_busWrite_other s u hr1]
  · rw [(State.mem_eq_iff.mp h).2.2.2.2.1, busWrite_mstate, busWrite_mstate, hcfg]

/-! ### Operations that leave memory alone -/

@[simp] theorem advance_mem (n : Nat) (s : State) : (advance n s).mem = s.mem := rfl
@[simp] theorem setFlags_mem (z n h c : Bool) (s : State) : (setFlags z n h c s).mem = s.mem := rfl
@[simp] theorem set16_mem (rr : Reg16) (v : Word) (s : State) : (set16 rr v s).mem = s.mem := by cases rr <;> rfl
@[simp] theorem loadA_mem (addr : Word) (s : State) : (loadA addr s).mem = s.mem := rfl
@[simp] theorem adjustHl_mem (delta : Word) (s : State) : (adjustHl delta s).mem = s.mem := rfl
@[simp] theorem aluA_mem (op : AluOp) (v : Byte) (s : State) : (aluA op v s).mem = s.mem := rfl
@[simp] theorem aluReg_mem (op : AluOp) (r : R8) (s : State) : (aluReg op r s).mem = s.mem := rfl
@[simp] theorem daaA_mem (s : State) : (daaA s).mem = s.mem := rfl
@[simp] theorem addHl_mem (rr : Reg16) (s : State) : (addHl rr s).mem = s.mem := rfl
@[simp] theorem spPlus_mem (dst : Reg16) (e : Byte) (s : State) : (spPlus dst e s).mem = s.mem := by cases dst <;> rfl
@[simp] theorem rotateA_mem (op : RotOp) (s : State) : (rotateA op s).mem = s.mem := rfl
@[simp] theorem cbBit_mem (b : Nat) (r : R8) (s : State) : (cbBit b r s).mem = s.mem := rfl
@[simp] theorem pop16To_mem (rr : Reg16) (s : State) : (pop16To rr s).mem = s.mem := by cases rr <;> rfl
@[simp] theorem jumpTo_mem (t : Word) (s : State) : (jumpTo t s).mem = s.mem := rfl
@[simp] theorem jumpBy_mem (e : Byte) (s : State) : (jumpBy e s).mem = s.mem := rfl
@[simp] theorem returnToCaller_mem (s : State) : (returnToCaller s).mem = s.mem := rfl
@[simp] theorem returnFromInterrupt_mem (s : State) : (returnFromInterrupt s).mem = s.mem := rfl
@[simp] theorem complementA_mem (s : State) : (complementA s).mem = s.mem := rfl
@[simp] theorem setCarry_mem (s : State) : (setCarry s).mem = s.mem := rfl
@[simp] theorem flipCarry_mem (s : State) : (flipCarry s).mem = s.mem := rfl
@[simp] theorem haltCore_mem (s : State) : (haltCore s).mem = s.mem := rfl

/-! ### Operations that store -/

/-- Writing an 8-bit operand: the memory side of the result. -/
theorem set8_resultInMemory {s s' t : State} {r : R8} {v : Byte} (hs : s'.mem = s.mem) (hh : s'.h = s.h) (hl : s'.l = s.l)
    (ht : t.mem = (set8 r v s').mem) : ResultInMemory r v s t := by
  refine ⟨?_, fun hr => sameMemory_of_mem ?_⟩
  · rintro rfl
    apply storesByte_of_mem
    rw [ht]
    show (busWrite s' (cat s'.h s'.l) v).mem = _
    rw [hh, hl]
    exact busWrite_mem hs _ _
  · rw [ht, ← hs]
    cases r <;> first | rfl | exact absurd rfl hr

/-- A push: the high byte at SP - 1, then the low byte at SP - 2 (R600). -/
theorem push16_storesTwo {s s' t : State} {v : Word} (hs : s'.mem = s.mem) (hsp : s'.sp = s.sp)
    (ht : t.mem = (push16 v s').mem) : StoresTwo (s.sp - 1) (hi v) (s.sp - 2) (lo v) s t := by
  have h2 : s.sp - 1 - 1 = s.sp - 2 := by bv_omega
  have h1 : s.sp - 2 + 1 = s.sp - 1 := by bv_omega
  apply storesTwo_of_mem
  · rw [ht]
    show (busWrite _ _ _).mem = _
    simp only [busWrite_sp, hsp, h2]
    apply busWrite_mem
    exact busWrite_mem (by exact hs) _ _
  · intro hw1 hw2
    rw [← h1] at hw1 ⊢
    exact fun h => ramKey_succ_ne hw2 hw1 h.symm

/-- A 16-bit store: the low byte at the address, then the high byte after it (R215). -/
theorem memWrite16_storesTwo {s s' t : State} {addr v : Word} (hs : s'.mem = s.mem)
    (ht : t.mem = (memWrite16 s' addr v).mem) : StoresTwo addr (lo v) (addr + 1) (hi v) s t := by
  apply storesTwo_of_mem
  · rw [ht]
    exact busWrite_mem (busWrite_mem hs _ _) _ _
  · exact fun h1 h2 => ramKey_succ_ne h1 h2

/-! ### PC, registers and engine state -/

@[simp] theorem after_one (s : State) : after 1 s = operandPc s := by
  unfold after operandPc; simp

@[simp] theorem after_two (s : State) : after 2 s = operandPc s + 1#16 := by
  unfold after operandPc; simp

@[simp] theorem after_three (s : State) : after 3 s = operandPc s + 2#16 := by
  unfold after operandPc; simp

@[simp] theorem advance_regs (n : Nat) (s : State) : (advance n s).regs = s.regs := rfl
@[simp] theorem advance_engine (n : Nat) (s : State) : (advance n s).engine = s.engine := rfl
@[simp] theorem busRead_advance (n : Nat) (s : State) (addr : Word) : busRead (advance n s) addr = busRead s addr := rfl
@[simp] theorem get8_advance (r : R8) (n : Nat) (s : State) : get8 r (advance n s) = get8 r s := by cases r <;> rfl
@[simp] theorem get16_advance (r : Reg16) (n : Nat) (s : State) : get16 r (advance n s) = get16 r s := by cases r <;> rfl
@[simp] theorem flagZ_advance (n : Nat) (s : State) : flagZ (advance n s) = flagZ s := rfl
@[simp] theorem flagN_advance (n : Nat) (s : State) : flagN (advance n s) = flagN s := rfl
@[simp] theorem flagH_advance (n : Nat) (s : State) : flagH (advance n s) = flagH s := rfl
@[simp] theorem flagC_advance (n : Nat) (s : State) : flagC (advance n s) = flagC s := rfl

@[simp] theorem busWrite_regs (s : State) (addr : Word) (v : Byte) : (busWrite s addr v).regs = s.regs := by
  simp [State.regs]
@[simp] theorem busWrite_engine (s : State) (addr : Word) (v : Byte) : (busWrite s addr v).engine = s.engine := by
  simp [State.engine]
@[simp] theorem set8_regs (r : R8) (v : Byte) (s : State) : (set8 r v s).regs = s.regs.put8 r v := by
  cases r <;> first | rfl | simp [set8, Regs.put8]
@[simp] theorem set8_engine (r : R8) (v : Byte) (s : State) : (set8 r v s).engine = s.engine := by simp [State.engine]
@[simp] theorem set16_regs (rr : Reg16) (v : Word) (s : State) : (set16 rr v s).regs = s.regs.put16 rr v := by
  cases rr <;> rfl
@[simp] theorem set16_engine (rr : Reg16) (v : Word) (s : State) : (set16 rr v s).engine = s.engine := by
  cases rr <;> rfl
@[simp] theorem setFlags_regs (z n h c : Bool) (s : State) :
    (setFlags z n h c s).regs = { s.regs with f := flagByte z n h c } := rfl
@[simp] theorem setFlags_engine (z n h c : Bool) (s : State) : (setFlags z n h c s).engine = s.engine := rfl
@[simp] theorem push16_regs (v : Word) (s : State) : (push16 v s).regs = { s.regs with sp := s.sp - 2 } := by
  have : s.sp - 1#16 - 1#16 = s.sp - 2#16 := by bv_omega
  simp [push16, State.regs, this]
@[simp] theorem push16_engine (v : Word) (s : State) : (push16 v s).engine = s.engine := by simp [push16, State.engine]

/-- The four flags that a flag byte holds, and its low nibble (R15, R101). -/
theorem flagsAre_of_f {t : State} {z n h c : Bool} (hf : t.f = flagByte z n h c) : FlagsAre t z n h c := by
  unfold FlagsAre flagZ flagN flagH flagC
  rw [hf]
  cases z <;> cases n <;> cases h <;> cases c <;> decide

end Sys2Proof.Machine
end

