-- ==== Sys2Proof/Laws/Exec.lean ====
section
/-!
SUPPORT. What `exec` answers for each block of the opcode maps, in terms of the shared operations.
-/

namespace Sys2Proof.Machine

/-- Every meaning answers a next state. -/
theorem exec_answers (i : Instr) (s : State) : ∃ t, exec i s = .next t := by cases i <;> exact ⟨_, rfl⟩

theorem exec_ldBlock (dst src : R8) (s : State) (h : ¬(dst = .mHL ∧ src = .mHL)) :
    exec (ldBlock dst src) s = .next (move8 dst src (advance 0 s)) := by
  cases dst <;> cases src <;> first | rfl | exact absurd ⟨rfl, rfl⟩ h

theorem exec_ldImm8 (dst : R8) (n : Byte) (s : State) : exec (ldImm8 dst n) s = .next (set8 dst n (advance 1 s)) := by
  cases dst <;> rfl

theorem exec_aluBlock (op : AluOp) (r : R8) (s : State) :
    exec (aluBlock op r) s = .next (aluReg op r (advance 0 s)) := by
  cases op <;> cases r <;> rfl

theorem exec_aluImm (op : AluOp) (n : Byte) (s : State) : exec (aluImm op n) s = .next (aluA op n (advance 1 s)) := by
  cases op <;> rfl

theorem exec_inc8Of (r : R8) (s : State) : exec (inc8Of r) s = .next (inc8 r (advance 0 s)) := by cases r <;> rfl

theorem exec_dec8Of (r : R8) (s : State) : exec (dec8Of r) s = .next (dec8 r (advance 0 s)) := by cases r <;> rfl

theorem exec_rotBlock (op : RotOp) (r : R8) (s : State) :
    exec (rotBlock op r) s = .next (cbRotate op r (advance 1 s)) := by
  cases op <;> cases r <;> rfl

/-- The bit numbers below 8, one by one. -/
theorem lt_eight {b : Nat} (h : b < 8) : b = 0 ∨ b = 1 ∨ b = 2 ∨ b = 3 ∨ b = 4 ∨ b = 5 ∨ b = 6 ∨ b = 7 := by omega

theorem exec_bitBlock {b : Nat} (h : b < 8) (r : R8) (s : State) :
    exec (bitBlock b r) s = .next (cbBit b r (advance 1 s)) := by
  rcases lt_eight h with rfl | rfl | rfl | rfl | rfl | rfl | rfl | rfl <;> cases r <;> rfl

theorem exec_resBlock {b : Nat} (h : b < 8) (r : R8) (s : State) :
    exec (resBlock b r) s = .next (cbRes b r (advance 1 s)) := by
  rcases lt_eight h with rfl | rfl | rfl | rfl | rfl | rfl | rfl | rfl <;> cases r <;> rfl

theorem exec_setBlock {b : Nat} (h : b < 8) (r : R8) (s : State) :
    exec (setBlock b r) s = .next (cbSet b r (advance 1 s)) := by
  rcases lt_eight h with rfl | rfl | rfl | rfl | rfl | rfl | rfl | rfl <;> cases r <;> rfl

/-- The CB entry of every second byte, as the prefix row runs it. -/
theorem exec_cbInstr (code : Byte) (s : State) : exec (cbInstr code) s = .next (cbEffect code (advance 1 s)) := by
  have hy : fieldY code < 8 := by unfold fieldY; omega
  unfold cbInstr cbEffect
  generalize fieldX code = x
  match x with
  | 0 => exact exec_rotBlock _ _ _
  | 1 => exact exec_bitBlock hy _ _
  | 2 => exact exec_resBlock hy _ _
  | _ + 3 => exact exec_setBlock hy _ _

end Sys2Proof.Machine
end

