-- ==== Sys2Proof/Tests/Slice0.lean ====
section
/-!
SUPPORT. Tests on fixed values: the check of complete instructions, the decoding of every opcode as the maps R309 and R314 print
them, the vectors of 95_test_vectors.md, and for every statement with hypotheses a case that meets them.
-/

namespace Sys2Proof.Tests
open Sys2Proof Sys2Proof.Machine

/-! ### Complete instructions -/

theorem test_wellformed_refuses_the_bare_lead_byte : ¬WellFormed .prefix_CB := by decide
theorem test_wellformed_accepts_a_prefixed_instruction : WellFormed .rlc_B := by decide

/-! ### Decoding: the rows of R309 and R314, written from the spec's cells; operand bytes 0x5A, or 0x34 0x12 -/

/-- The bytes of a map row. -/
def rowOf (high : Nat) : List Byte := (List.range 16).map fun low => BitVec.ofNat 8 (16 * high + low)

/-- The instruction that a byte list is, all of it. -/
def whole (bytes : List Byte) : Option Instr :=
  match decode bytes with
  | .ok (i, []) => some i
  | _ => none

/-- Decode an unprefixed opcode with the operand bytes of the tests: 0x5A where one byte follows, else 0x34 0x12. -/
def mainCell (op : Byte) : Option Instr :=
  if lengthOfFirst op = 3 then whole [op, 0x34, 0x12]
  else if op ≠ 0xCB ∧ lengthOfFirst op = 2 then whole [op, 0x5A] else whole [op]

theorem test_row_0x : (rowOf 0x0).map mainCell = List.map some [
    .nop, .ld_BC_d16 0x1234, .ld_mBC_A, .inc_BC,
    .inc_B, .dec_B, .ld_B_d8 0x5A, .rlca,
    .ld_ma16_SP 0x1234, .add_HL_BC, .ld_A_mBC, .dec_BC,
    .inc_C, .dec_C, .ld_C_d8 0x5A, .rrca] := by decide
theorem test_row_1x : (rowOf 0x1).map mainCell = List.map some [
    .stop 0x5A, .ld_DE_d16 0x1234, .ld_mDE_A, .inc_DE,
    .inc_D, .dec_D, .ld_D_d8 0x5A, .rla,
    .jr_e8 0x5A, .add_HL_DE, .ld_A_mDE, .dec_DE,
    .inc_E, .dec_E, .ld_E_d8 0x5A, .rra] := by decide
theorem test_row_2x : (rowOf 0x2).map mainCell = List.map some [
    .jr_NZ_e8 0x5A, .ld_HL_d16 0x1234, .ld_mHLi_A, .inc_HL,
    .inc_H, .dec_H, .ld_H_d8 0x5A, .daa,
    .jr_Z_e8 0x5A, .add_HL_HL, .ld_A_mHLi, .dec_HL,
    .inc_L, .dec_L, .ld_L_d8 0x5A, .cpl] := by decide
theorem test_row_3x : (rowOf 0x3).map mainCell = List.map some [
    .jr_NC_e8 0x5A, .ld_SP_d16 0x1234, .ld_mHLd_A, .inc_SP,
    .inc_mHL, .dec_mHL, .ld_mHL_d8 0x5A, .scf,
    .jr_C_e8 0x5A, .add_HL_SP, .ld_A_mHLd, .dec_SP,
    .inc_A, .dec_A, .ld_A_d8 0x5A, .ccf] := by decide
theorem test_row_4x : (rowOf 0x4).map mainCell = List.map some [
    .ld_B_B, .ld_B_C, .ld_B_D, .ld_B_E,
    .ld_B_H, .ld_B_L, .ld_B_mHL, .ld_B_A,
    .ld_C_B, .ld_C_C, .ld_C_D, .ld_C_E,
    .ld_C_H, .ld_C_L, .ld_C_mHL, .ld_C_A] := by decide
theorem test_row_5x : (rowOf 0x5).map mainCell = List.map some [
    .ld_D_B, .ld_D_C, .ld_D_D, .ld_D_E,
    .ld_D_H, .ld_D_L, .ld_D_mHL, .ld_D_A,
    .ld_E_B, .ld_E_C, .ld_E_D, .ld_E_E,
    .ld_E_H, .ld_E_L, .ld_E_mHL, .ld_E_A] := by decide
theorem test_row_6x : (rowOf 0x6).map mainCell = List.map some [
    .ld_H_B, .ld_H_C, .ld_H_D, .ld_H_E,
    .ld_H_H, .ld_H_L, .ld_H_mHL, .ld_H_A,
    .ld_L_B, .ld_L_C, .ld_L_D, .ld_L_E,
    .ld_L_H, .ld_L_L, .ld_L_mHL, .ld_L_A] := by decide
theorem test_row_7x : (rowOf 0x7).map mainCell = List.map some [
    .ld_mHL_B, .ld_mHL_C, .ld_mHL_D, .ld_mHL_E,
    .ld_mHL_H, .ld_mHL_L, .halt, .ld_mHL_A,
    .ld_A_B, .ld_A_C, .ld_A_D, .ld_A_E,
    .ld_A_H, .ld_A_L, .ld_A_mHL, .ld_A_A] := by decide
theorem test_row_8x : (rowOf 0x8).map mainCell = List.map some [
    .add_A_B, .add_A_C, .add_A_D, .add_A_E,
    .add_A_H, .add_A_L, .add_A_mHL, .add_A_A,
    .adc_A_B, .adc_A_C, .adc_A_D, .adc_A_E,
    .adc_A_H, .adc_A_L, .adc_A_mHL, .adc_A_A] := by decide
theorem test_row_9x : (rowOf 0x9).map mainCell = List.map some [
    .sub_A_B, .sub_A_C, .sub_A_D, .sub_A_E,
    .sub_A_H, .sub_A_L, .sub_A_mHL, .sub_A_A,
    .sbc_A_B, .sbc_A_C, .sbc_A_D, .sbc_A_E,
    .sbc_A_H, .sbc_A_L, .sbc_A_mHL, .sbc_A_A] := by decide
theorem test_row_Ax : (rowOf 0xA).map mainCell = List.map some [
    .and_A_B, .and_A_C, .and_A_D, .and_A_E,
    .and_A_H, .and_A_L, .and_A_mHL, .and_A_A,
    .xor_A_B, .xor_A_C, .xor_A_D, .xor_A_E,
    .xor_A_H, .xor_A_L, .xor_A_mHL, .xor_A_A] := by decide
theorem test_row_Bx : (rowOf 0xB).map mainCell = List.map some [
    .or_A_B, .or_A_C, .or_A_D, .or_A_E,
    .or_A_H, .or_A_L, .or_A_mHL, .or_A_A,
    .cp_A_B, .cp_A_C, .cp_A_D, .cp_A_E,
    .cp_A_H, .cp_A_L, .cp_A_mHL, .cp_A_A] := by decide
theorem test_row_Cx : (rowOf 0xC).map mainCell = List.map some [
    .ret_NZ, .pop_BC, .jp_NZ_a16 0x1234, .jp_a16 0x1234,
    .call_NZ_a16 0x1234, .push_BC, .add_A_d8 0x5A, .rst_00,
    .ret_Z, .ret, .jp_Z_a16 0x1234, .prefix_CB,
    .call_Z_a16 0x1234, .call_a16 0x1234, .adc_A_d8 0x5A, .rst_08] := by decide
theorem test_row_Dx : (rowOf 0xD).map mainCell = List.map some [
    .ret_NC, .pop_DE, .jp_NC_a16 0x1234, .illegal_D3,
    .call_NC_a16 0x1234, .push_DE, .sub_A_d8 0x5A, .rst_10,
    .ret_C, .reti, .jp_C_a16 0x1234, .illegal_DB,
    .call_C_a16 0x1234, .illegal_DD, .sbc_A_d8 0x5A, .rst_18] := by decide
theorem test_row_Ex : (rowOf 0xE).map mainCell = List.map some [
    .ldh_ma8_A 0x5A, .pop_HL, .ld_mC_A, .illegal_E3,
    .illegal_E4, .push_HL, .and_A_d8 0x5A, .rst_20,
    .add_SP_e8 0x5A, .jp_HL, .ld_ma16_A 0x1234, .illegal_EB,
    .illegal_EC, .illegal_ED, .xor_A_d8 0x5A, .rst_28] := by decide
theorem test_row_Fx : (rowOf 0xF).map mainCell = List.map some [
    .ldh_A_ma8 0x5A, .pop_AF, .ld_A_mC, .di,
    .illegal_F4, .push_AF, .or_A_d8 0x5A, .rst_30,
    .ld_HL_SPe8 0x5A, .ld_SP_HL, .ld_A_ma16 0x1234, .ei,
    .illegal_FC, .illegal_FD, .cp_A_d8 0x5A, .rst_38] := by decide
theorem test_prefixed_row_0x : (rowOf 0x0).map (fun code => whole [0xCB, code]) = List.map some [
    .rlc_B, .rlc_C, .rlc_D, .rlc_E,
    .rlc_H, .rlc_L, .rlc_mHL, .rlc_A,
    .rrc_B, .rrc_C, .rrc_D, .rrc_E,
    .rrc_H, .rrc_L, .rrc_mHL, .rrc_A] := by decide
theorem test_prefixed_row_1x : (rowOf 0x1).map (fun code => whole [0xCB, code]) = List.map some [
    .rl_B, .rl_C, .rl_D, .rl_E,
    .rl_H, .rl_L, .rl_mHL, .rl_A,
    .rr_B, .rr_C, .rr_D, .rr_E,
    .rr_H, .rr_L, .rr_mHL, .rr_A] := by decide
theorem test_prefixed_row_2x : (rowOf 0x2).map (fun code => whole [0xCB, code]) = List.map some [
    .sla_B, .sla_C, .sla_D, .sla_E,
    .sla_H, .sla_L, .sla_mHL, .sla_A,
    .sra_B, .sra_C, .sra_D, .sra_E,
    .sra_H, .sra_L, .sra_mHL, .sra_A] := by decide
theorem test_prefixed_row_3x : (rowOf 0x3).map (fun code => whole [0xCB, code]) = List.map some [
    .swap_B, .swap_C, .swap_D, .swap_E,
    .swap_H, .swap_L, .swap_mHL, .swap_A,
    .srl_B, .srl_C, .srl_D, .srl_E,
    .srl_H, .srl_L, .srl_mHL, .srl_A] := by decide
theorem test_prefixed_row_4x : (rowOf 0x4).map (fun code => whole [0xCB, code]) = List.map some [
    .bit_0_B, .bit_0_C, .bit_0_D, .bit_0_E,
    .bit_0_H, .bit_0_L, .bit_0_mHL, .bit_0_A,
    .bit_1_B, .bit_1_C, .bit_1_D, .bit_1_E,
    .bit_1_H, .bit_1_L, .bit_1_mHL, .bit_1_A] := by decide
theorem test_prefixed_row_5x : (rowOf 0x5).map (fun code => whole [0xCB, code]) = List.map some [
    .bit_2_B, .bit_2_C, .bit_2_D, .bit_2_E,
    .bit_2_H, .bit_2_L, .bit_2_mHL, .bit_2_A,
    .bit_3_B, .bit_3_C, .bit_3_D, .bit_3_E,
    .bit_3_H, .bit_3_L, .bit_3_mHL, .bit_3_A] := by decide
theorem test_prefixed_row_6x : (rowOf 0x6).map (fun code => whole [0xCB, code]) = List.map some [
    .bit_4_B, .bit_4_C, .bit_4_D, .bit_4_E,
    .bit_4_H, .bit_4_L, .bit_4_mHL, .bit_4_A,
    .bit_5_B, .bit_5_C, .bit_5_D, .bit_5_E,
    .bit_5_H, .bit_5_L, .bit_5_mHL, .bit_5_A] := by decide
theorem test_prefixed_row_7x : (rowOf 0x7).map (fun code => whole [0xCB, code]) = List.map some [
    .bit_6_B, .bit_6_C, .bit_6_D, .bit_6_E,
    .bit_6_H, .bit_6_L, .bit_6_mHL, .bit_6_A,
    .bit_7_B, .bit_7_C, .bit_7_D, .bit_7_E,
    .bit_7_H, .bit_7_L, .bit_7_mHL, .bit_7_A] := by decide
theorem test_prefixed_row_8x : (rowOf 0x8).map (fun code => whole [0xCB, code]) = List.map some [
    .res_0_B, .res_0_C, .res_0_D, .res_0_E,
    .res_0_H, .res_0_L, .res_0_mHL, .res_0_A,
    .res_1_B, .res_1_C, .res_1_D, .res_1_E,
    .res_1_H, .res_1_L, .res_1_mHL, .res_1_A] := by decide
theorem test_prefixed_row_9x : (rowOf 0x9).map (fun code => whole [0xCB, code]) = List.map some [
    .res_2_B, .res_2_C, .res_2_D, .res_2_E,
    .res_2_H, .res_2_L, .res_2_mHL, .res_2_A,
    .res_3_B, .res_3_C, .res_3_D, .res_3_E,
    .res_3_H, .res_3_L, .res_3_mHL, .res_3_A] := by decide
theorem test_prefixed_row_Ax : (rowOf 0xA).map (fun code => whole [0xCB, code]) = List.map some [
    .res_4_B, .res_4_C, .res_4_D, .res_4_E,
    .res_4_H, .res_4_L, .res_4_mHL, .res_4_A,
    .res_5_B, .res_5_C, .res_5_D, .res_5_E,
    .res_5_H, .res_5_L, .res_5_mHL, .res_5_A] := by decide
theorem test_prefixed_row_Bx : (rowOf 0xB).map (fun code => whole [0xCB, code]) = List.map some [
    .res_6_B, .res_6_C, .res_6_D, .res_6_E,
    .res_6_H, .res_6_L, .res_6_mHL, .res_6_A,
    .res_7_B, .res_7_C, .res_7_D, .res_7_E,
    .res_7_H, .res_7_L, .res_7_mHL, .res_7_A] := by decide
theorem test_prefixed_row_Cx : (rowOf 0xC).map (fun code => whole [0xCB, code]) = List.map some [
    .set_0_B, .set_0_C, .set_0_D, .set_0_E,
    .set_0_H, .set_0_L, .set_0_mHL, .set_0_A,
    .set_1_B, .set_1_C, .set_1_D, .set_1_E,
    .set_1_H, .set_1_L, .set_1_mHL, .set_1_A] := by decide
theorem test_prefixed_row_Dx : (rowOf 0xD).map (fun code => whole [0xCB, code]) = List.map some [
    .set_2_B, .set_2_C, .set_2_D, .set_2_E,
    .set_2_H, .set_2_L, .set_2_mHL, .set_2_A,
    .set_3_B, .set_3_C, .set_3_D, .set_3_E,
    .set_3_H, .set_3_L, .set_3_mHL, .set_3_A] := by decide
theorem test_prefixed_row_Ex : (rowOf 0xE).map (fun code => whole [0xCB, code]) = List.map some [
    .set_4_B, .set_4_C, .set_4_D, .set_4_E,
    .set_4_H, .set_4_L, .set_4_mHL, .set_4_A,
    .set_5_B, .set_5_C, .set_5_D, .set_5_E,
    .set_5_H, .set_5_L, .set_5_mHL, .set_5_A] := by decide
theorem test_prefixed_row_Fx : (rowOf 0xF).map (fun code => whole [0xCB, code]) = List.map some [
    .set_6_B, .set_6_C, .set_6_D, .set_6_E,
    .set_6_H, .set_6_L, .set_6_mHL, .set_6_A,
    .set_7_B, .set_7_C, .set_7_D, .set_7_E,
    .set_7_H, .set_7_L, .set_7_mHL, .set_7_A] := by decide

theorem test_decode_rejects_no_byte : decode [] = .error .noByte := rfl
theorem test_decode_rejects_a_truncated_immediate : decode [0xC3, 0x50] = .error (.truncated 0xC3) := rfl
theorem test_table_numbering_of_prefixed_rows : decodeTableWord 16 0xCB7E = some .bit_7_mHL := by decide
theorem test_table_numbering_of_operands : decodeTableWord 24 0x1234C3 = some (.jp_a16 0x1234) := by decide
theorem test_table_row_without_operand_bits : decodeTableWord 8 0x21 = some (.ld_HL_d16 0) := by decide

/-! ### One step from the common start state of 95_test_vectors.md -/

/-- The common start state with bytes of ROM at 0x0100. -/
def prog (bytes : List Byte) : State := { State.reset with rom := Memory.ofBytes 0x0100 bytes }

/-- RAM with one byte. -/
def cell (addr : Nat) (v : Byte) : Memory := [(addr, v)]

/-- A field of the state after one step. -/
def sees {α : Type} (s : State) (g : State → α) : Option α :=
  match step s with
  | .next t => some (g t)
  | .fault _ => none
  | .refused _ => none

theorem test_S2_add : sees { prog [0x80] with a := 0x0F, b := 0x01 } (fun t => (t.a, t.f, t.pc, t.cycles)) = some (0x10, 0x20, 0x0101, 4) := by decide
theorem test_S3_add_wraps : sees { prog [0x80] with a := 0xFF, b := 0x01 } (fun t => (t.a, t.f)) = some (0x00, 0xB0) := by decide
theorem test_S4_sub : sees { prog [0x90] with a := 0x00, b := 0x01 } (fun t => (t.a, t.f, t.cycles)) = some (0xFF, 0x70, 4) := by decide
theorem test_S5_inc_memory_keeps_carry : sees { prog [0x34] with h := 0xC0, ram := cell 0xC000 0xFF, f := 0x10 } (fun t => (busRead t 0xC000, t.f, t.cycles)) = some (0x00, 0xB0, 12) := by decide
theorem test_S8_prefixed : sees { prog [0xCB, 0x00] with b := 0x85 } (fun t => (t.pc, t.b, t.f, t.cycles)) = some (0x0102, 0x0B, 0x10, 8) := by decide
theorem test_S9_halt_slot : sees (prog [0x76]) (fun t => (t.mode, t.pc, t.cycles, t.faultInfo)) = some (.halted, 0x0101, 4, none) := by decide
theorem test_V101_ld_B_C : sees { prog [0x41] with b := 0x11, c := 0x22 } (fun t => (t.b, t.c, t.pc, t.cycles)) = some (0x22, 0x22, 0x0101, 4) := by decide
theorem test_V102_ld_B_B : sees { prog [0x40] with b := 0x11, f := 0xF0 } (fun t => (t.b, t.f, t.pc)) = some (0x11, 0xF0, 0x0101) := by decide
theorem test_V103_ld_mHL_B : sees { prog [0x70] with b := 0x99, h := 0xC1, l := 0x23 } (fun t => (busRead t 0xC123, t.cycles)) = some (0x99, 8) := by decide
theorem test_V104_ld_A_mHL_unusable : sees { prog [0x7E] with a := 0x55, h := 0xFE, l := 0xA5 } (fun t => t.a) = some 0x00 := by decide
theorem test_V105_ld_mHL_A_echo : sees { prog [0x77] with a := 0x42, h := 0xE0, l := 0x10 } (fun t => (busRead t 0xC010, busRead t 0xE010, t.cycles)) = some (0x42, 0x42, 8) := by decide
theorem test_V106_ld_A_d8 : sees (prog [0x3E, 0x7F]) (fun t => (t.a, t.pc, t.cycles)) = some (0x7F, 0x0102, 8) := by decide
theorem test_V107_ld_mHL_d8 : sees { prog [0x36, 0x5A] with h := 0xC0 } (fun t => (busRead t 0xC000, t.pc, t.cycles)) = some (0x5A, 0x0102, 12) := by decide
theorem test_V108_ld_A_mBC : sees { prog [0x0A] with b := 0xC0, c := 0x05, ram := cell 0xC005 0x77 } (fun t => (t.a, t.cycles)) = some (0x77, 8) := by decide
theorem test_V109_ld_mDE_A : sees { prog [0x12] with a := 0x66, d := 0xC0, e := 0x06 } (fun t => (busRead t 0xC006, t.cycles)) = some (0x66, 8) := by decide
theorem test_V110_ld_A_mHLi : sees { prog [0x2A] with h := 0xC0, l := 0xFF, ram := cell 0xC0FF 0x12 } (fun t => (t.a, get16 .hl t)) = some (0x12, 0xC100) := by decide
theorem test_V111_ld_A_mHLd_wraps : sees { prog [0x3A] with a := 0x01 } (fun t => (t.a, get16 .hl t)) = some (0x00, 0xFFFF) := by decide
theorem test_V112_ld_mHLi_A_at_ie : sees { prog [0x22] with a := 0x01, h := 0xFF, l := 0xFF } (fun t => (t.ie, get16 .hl t)) = some (0x01, 0x0000) := by decide
theorem test_V113_ld_mHLd_A : sees { prog [0x32] with a := 0x01, h := 0xC0 } (fun t => (busRead t 0xC000, get16 .hl t)) = some (0x01, 0xBFFF) := by decide
theorem test_V114_ld_A_ma16 : sees { prog [0xFA, 0x00, 0xC0] with ram := cell 0xC000 0x5C } (fun t => (t.a, t.pc, t.cycles)) = some (0x5C, 0x0103, 16) := by decide
theorem test_V115_ld_ma16_A_mapper_range : sees { prog [0xEA, 0x00, 0x20] with a := 0x03 } (fun t => (t.rom, t.mstate, t.pc, t.cycles)) = some ([(0x0100, 0xEA), (0x0102, 0x20)], 0, 0x0103, 16) := by decide
theorem test_V116_ldh_ma8_A : sees { prog [0xE0, 0x80] with a := 0x9C } (fun t => (busRead t 0xFF80, t.cycles)) = some (0x9C, 12) := by decide
theorem test_V117_ldh_A_ma8_ie : sees { prog [0xF0, 0xFF] with ie := 0x1F } (fun t => (t.a, t.cycles)) = some (0x1F, 12) := by decide
theorem test_V118_ld_mC_A_if : sees { prog [0xE2] with a := 0x12, c := 0x0F } (fun t => t.ifr) = some 0x12 := by decide
theorem test_V119_ld_A_mC : sees { prog [0xF2] with c := 0x80, ram := cell 0xFF80 0x44 } (fun t => t.a) = some 0x44 := by decide
theorem test_V201_adc : sees { prog [0x88] with a := 0x0E, b := 0x01, f := 0x10 } (fun t => (t.a, t.f)) = some (0x10, 0x20) := by decide
theorem test_V202_adc_wraps_through_carry : sees { prog [0x88] with a := 0xFF, f := 0x10 } (fun t => (t.a, t.f)) = some (0x00, 0xB0) := by decide
theorem test_V203_sbc_to_zero : sees { prog [0x98] with a := 0x10, b := 0x0F, f := 0x10 } (fun t => (t.a, t.f)) = some (0x00, 0xE0) := by decide
theorem test_V204_sbc_borrow_unmasked : sees { prog [0x98] with a := 0x00, b := 0xFF, f := 0x10 } (fun t => (t.a, t.f)) = some (0x00, 0xF0) := by decide
theorem test_V205_and : sees { prog [0xA0] with a := 0xF0, b := 0x0F } (fun t => (t.a, t.f)) = some (0x00, 0xA0) := by decide
theorem test_V206_xor : sees { prog [0xA8] with a := 0x5A, b := 0x5A, f := 0x70 } (fun t => (t.a, t.f)) = some (0x00, 0x80) := by decide
theorem test_V207_or : sees { prog [0xB0] with f := 0x30 } (fun t => (t.a, t.f)) = some (0x00, 0x80) := by decide
theorem test_V208_cp_equal : sees { prog [0xB8] with a := 0x3C, b := 0x3C } (fun t => (t.a, t.f)) = some (0x3C, 0xC0) := by decide
theorem test_V209_cp_less : sees { prog [0xB8] with a := 0x3C, b := 0x40 } (fun t => (t.a, t.f)) = some (0x3C, 0x50) := by decide
theorem test_V211_sub_same : sees { prog [0x97] with a := 0x12 } (fun t => (t.a, t.f)) = some (0x00, 0xC0) := by decide
theorem test_V212_add_same : sees { prog [0x87] with a := 0x80 } (fun t => (t.a, t.f)) = some (0x00, 0x90) := by decide
theorem test_V213_add_memory : sees { prog [0x86] with a := 0x01, h := 0xC0, ram := cell 0xC000 0x0F } (fun t => (t.a, t.f, t.cycles)) = some (0x10, 0x20, 8) := by decide
theorem test_V214_inc_keeps_carry : sees { prog [0x04] with b := 0x0F, f := 0x10 } (fun t => (t.b, t.f)) = some (0x10, 0x30) := by decide
theorem test_V215_inc_wraps : sees { prog [0x04] with b := 0xFF } (fun t => (t.b, t.f)) = some (0x00, 0xA0) := by decide
theorem test_V216_dec_half_borrow : sees { prog [0x05] with b := 0x10, f := 0x10 } (fun t => (t.b, t.f)) = some (0x0F, 0x70) := by decide
theorem test_V218_dec_wraps : sees (prog [0x05]) (fun t => (t.b, t.f)) = some (0xFF, 0x60) := by decide
theorem test_V219_dec_memory : sees { prog [0x35] with h := 0xC0 } (fun t => (busRead t 0xC000, t.f, t.cycles)) = some (0xFF, 0x60, 12) := by decide
theorem test_V220_add_d8 : sees { prog [0xC6, 0x38] with a := 0x45 } (fun t => (t.a, t.f, t.pc, t.cycles)) = some (0x7D, 0x00, 0x0102, 8) := by decide
theorem test_V222_daa_after_add : sees { prog [0x27] with a := 0x9A } (fun t => (t.a, t.f)) = some (0x00, 0x90) := by decide
theorem test_V224_daa_after_sub : sees { prog [0x27] with a := 0x0F, f := 0x60 } (fun t => (t.a, t.f)) = some (0x09, 0x40) := by decide
theorem test_V225_cpl : sees { prog [0x2F] with a := 0x35, f := 0x90 } (fun t => (t.a, t.f)) = some (0xCA, 0xF0) := by decide
theorem test_V226_scf : sees { prog [0x37] with f := 0xE0 } (fun t => t.f) = some 0x90 := by decide
theorem test_V227_ccf : sees { prog [0x3F] with f := 0x70 } (fun t => t.f) = some 0x00 := by decide
theorem test_V228_cp_d8 : sees (prog [0xFE, 0x01]) (fun t => (t.a, t.f, t.cycles)) = some (0x00, 0x70, 8) := by decide
theorem test_V229_sub_d8 : sees { prog [0xD6, 0x10] with a := 0x10 } (fun t => (t.a, t.f)) = some (0x00, 0xC0) := by decide
theorem test_V230_and_d8 : sees { prog [0xE6, 0x0F] with a := 0xAB } (fun t => (t.a, t.f)) = some (0x0B, 0x20) := by decide
theorem test_R506_xor_d8 : sees { prog [0xEE, 0x0F] with a := 0xFF } (fun t => (t.a, t.f)) = some (0xF0, 0x00) := by decide
theorem test_V301_ld_BC_d16 : sees (prog [0x01, 0x34, 0x12]) (fun t => (get16 .bc t, t.b, t.pc, t.cycles)) = some (0x1234, 0x12, 0x0103, 12) := by decide
theorem test_V302_ld_SP_d16 : sees (prog [0x31, 0x00, 0xD0]) (fun t => t.sp) = some 0xD000 := by decide
theorem test_V303_ld_ma16_SP : sees { prog [0x08, 0x00, 0xC0] with sp := 0xABCD } (fun t => (busRead t 0xC000, busRead t 0xC001, t.cycles)) = some (0xCD, 0xAB, 20) := by decide
theorem test_V304_ld_SP_HL : sees { prog [0xF9] with h := 0xD0 } (fun t => t.sp) = some 0xD000 := by decide
theorem test_V306_ld_HL_SPe8_negative : sees { prog [0xF8, 0xFF] with sp := 0x0000 } (fun t => (get16 .hl t, t.f, t.sp, t.cycles)) = some (0xFFFF, 0x00, 0x0000, 12) := by decide
theorem test_V307_ld_HL_SPe8_both_carries : sees { prog [0xF8, 0x01] with sp := 0x00FF } (fun t => (get16 .hl t, t.f)) = some (0x0100, 0x30) := by decide
theorem test_V308_push_BC : sees { prog [0xC5] with b := 0x12, c := 0x34 } (fun t => (t.sp, busRead t 0xFFFD, busRead t 0xFFFC, t.cycles)) = some (0xFFFC, 0x12, 0x34, 16) := by decide
theorem test_V312_push_BC_at_zero : sees { prog [0xC5] with b := 0x01, c := 0x02, sp := 0x0000 } (fun t => (t.ie, busRead t 0xFFFE, t.sp)) = some (0x01, 0x02, 0xFFFE) := by decide
theorem test_V309_push_AF : sees { prog [0xF5] with a := 0x12, f := 0xB0 } (fun t => (t.sp, busRead t 0xFFFD, busRead t 0xFFFC)) = some (0xFFFC, 0x12, 0xB0) := by decide
theorem test_V310_pop_DE : sees { prog [0xD1] with sp := 0xC000, ram := [(0xC000, 0x34), (0xC001, 0x12)] } (fun t => (get16 .de t, t.sp, t.cycles)) = some (0x1234, 0xC002, 12) := by decide
theorem test_V311_pop_AF_masks : sees { prog [0xF1] with sp := 0xC000, ram := [(0xC000, 0xFF), (0xC001, 0x12)] } (fun t => (t.a, t.f, t.sp)) = some (0x12, 0xF0, 0xC002) := by decide
theorem test_V401_add_HL_BC : sees { prog [0x09] with h := 0x0F, l := 0xFF, c := 0x01, f := 0x80 } (fun t => (get16 .hl t, t.f, t.cycles)) = some (0x1000, 0xA0, 8) := by decide
theorem test_V402_add_HL_BC_wraps : sees { prog [0x09] with h := 0xFF, l := 0xFF, c := 0x01 } (fun t => (get16 .hl t, t.f)) = some (0x0000, 0x30) := by decide
theorem test_V403_add_HL_HL : sees { prog [0x29] with h := 0x80 } (fun t => (get16 .hl t, t.f)) = some (0x0000, 0x10) := by decide
theorem test_V404_add_HL_SP : sees { prog [0x39] with l := 0x01, sp := 0xFFFF } (fun t => (get16 .hl t, t.f)) = some (0x0000, 0x30) := by decide
theorem test_V405_inc_BC_wraps : sees { prog [0x03] with b := 0xFF, c := 0xFF, f := 0xF0 } (fun t => (get16 .bc t, t.f)) = some (0x0000, 0xF0) := by decide
theorem test_V406_dec_DE_wraps : sees (prog [0x1B]) (fun t => (get16 .de t, t.f)) = some (0xFFFF, 0x00) := by decide
theorem test_V407_inc_SP_wraps : sees { prog [0x33] with sp := 0xFFFF } (fun t => t.sp) = some 0x0000 := by decide
theorem test_V409_add_SP_e8_negative : sees { prog [0xE8, 0xFF] with sp := 0x0001 } (fun t => (t.sp, t.f, t.cycles)) = some (0x0000, 0x30, 16) := by decide
theorem test_V410_add_SP_e8_lowest : sees { prog [0xE8, 0x80] with sp := 0x1000 } (fun t => (t.sp, t.f)) = some (0x0F80, 0x00) := by decide
theorem test_V501_rlca : sees { prog [0x07] with a := 0x85, f := 0x80 } (fun t => (t.a, t.f, t.cycles)) = some (0x0B, 0x10, 4) := by decide
theorem test_V503_rrca : sees { prog [0x0F] with a := 0x01 } (fun t => (t.a, t.f)) = some (0x80, 0x10) := by decide
theorem test_V504_rla : sees { prog [0x17] with a := 0x80 } (fun t => (t.a, t.f)) = some (0x00, 0x10) := by decide
theorem test_V505_rra : sees { prog [0x1F] with a := 0x01, f := 0x10 } (fun t => (t.a, t.f)) = some (0x80, 0x10) := by decide
theorem test_V507_rrc_B : sees { prog [0xCB, 0x08] with b := 0x01 } (fun t => (t.b, t.f)) = some (0x80, 0x10) := by decide
theorem test_V508_rl_C : sees { prog [0xCB, 0x11] with c := 0x80 } (fun t => (t.c, t.f)) = some (0x00, 0x90) := by decide
theorem test_V509_rr_D : sees { prog [0xCB, 0x1A] with d := 0x01 } (fun t => (t.d, t.f)) = some (0x00, 0x90) := by decide
theorem test_V510_sla_E : sees { prog [0xCB, 0x23] with e := 0xC0 } (fun t => (t.e, t.f)) = some (0x80, 0x10) := by decide
theorem test_V511_sra_H : sees { prog [0xCB, 0x2C] with h := 0x81 } (fun t => (t.h, t.f)) = some (0xC0, 0x10) := by decide
theorem test_V512_swap_L : sees { prog [0xCB, 0x35] with l := 0xF0, f := 0x10 } (fun t => (t.l, t.f)) = some (0x0F, 0x00) := by decide
theorem test_V514_srl_A : sees { prog [0xCB, 0x3F] with a := 0x01 } (fun t => (t.a, t.f)) = some (0x00, 0x90) := by decide
theorem test_V515_rlc_mHL : sees { prog [0xCB, 0x06] with h := 0xC0, ram := cell 0xC000 0x80 } (fun t => (busRead t 0xC000, t.f, t.cycles)) = some (0x01, 0x10, 16) := by decide
theorem test_V516_bit_set : sees { prog [0xCB, 0x7F] with a := 0x80, f := 0x10 } (fun t => (t.f, t.cycles)) = some (0x30, 8) := by decide
theorem test_V517_bit_clear : sees { prog [0xCB, 0x7F] with a := 0x7F, f := 0x10 } (fun t => t.f) = some 0xB0 := by decide
theorem test_V518_bit_mHL : sees { prog [0xCB, 0x46] with h := 0xC0, ram := cell 0xC000 0x01 } (fun t => (t.f, t.ram, t.cycles)) = some (0x20, cell 0xC000 0x01, 12) := by decide
theorem test_V519_res : sees { prog [0xCB, 0x87] with a := 0xFF, f := 0xF0 } (fun t => (t.a, t.f)) = some (0xFE, 0xF0) := by decide
theorem test_V520_set_mHL : sees { prog [0xCB, 0xFE] with h := 0xC0 } (fun t => (busRead t 0xC000, t.cycles)) = some (0x80, 16) := by decide
theorem test_V601_jp : sees (prog [0xC3, 0x50, 0x01]) (fun t => (t.pc, t.cycles)) = some (0x0150, 16) := by decide
theorem test_V602_jp_NZ_not_taken : sees { prog [0xC2, 0x50, 0x01] with f := 0x80 } (fun t => (t.pc, t.cycles)) = some (0x0103, 12) := by decide
theorem test_V603_jp_Z_taken : sees { prog [0xCA, 0x50, 0x01] with f := 0x80 } (fun t => (t.pc, t.cycles)) = some (0x0150, 16) := by decide
theorem test_V604_jp_HL : sees { prog [0xE9] with h := 0x12, l := 0x34 } (fun t => (t.pc, t.cycles)) = some (0x1234, 4) := by decide
theorem test_V605_jr_itself : sees (prog [0x18, 0xFE]) (fun t => (t.pc, t.cycles)) = some (0x0100, 12) := by decide
theorem test_V607_jr_lowest : sees (prog [0x18, 0x80]) (fun t => t.pc) = some 0x0082 := by decide
theorem test_V608_jr_NZ_taken : sees (prog [0x20, 0x05]) (fun t => (t.pc, t.cycles)) = some (0x0107, 12) := by decide
theorem test_V609_jr_C_not_taken : sees (prog [0x38, 0x05]) (fun t => (t.pc, t.cycles)) = some (0x0102, 8) := by decide
theorem test_V611_call : sees (prog [0xCD, 0x00, 0x20]) (fun t => (t.pc, t.sp, busRead t 0xFFFD, busRead t 0xFFFC, t.cycles)) = some (0x2000, 0xFFFC, 0x01, 0x03, 24) := by decide
theorem test_V612_call_NZ_not_taken : sees { prog [0xC4, 0x00, 0x20] with f := 0x80 } (fun t => (t.pc, t.sp, t.cycles)) = some (0x0103, 0xFFFE, 12) := by decide
theorem test_V613_call_C_taken : sees { prog [0xDC, 0x00, 0x20] with f := 0x10 } (fun t => (t.pc, t.sp, t.cycles)) = some (0x2000, 0xFFFC, 24) := by decide
theorem test_V614_ret : sees { prog [0xC9] with sp := 0xC000, ram := [(0xC000, 0x34), (0xC001, 0x12)] } (fun t => (t.pc, t.sp, t.cycles)) = some (0x1234, 0xC002, 16) := by decide
theorem test_V615_ret_Z_not_taken : sees { prog [0xC8] with sp := 0xC000, ram := [(0xC000, 0x34), (0xC001, 0x12)] } (fun t => (t.pc, t.sp, t.cycles)) = some (0x0101, 0xC000, 8) := by decide
theorem test_V616_ret_NC_taken : sees { prog [0xD0] with sp := 0xC000, ram := [(0xC000, 0x34), (0xC001, 0x12)] } (fun t => (t.pc, t.sp, t.cycles)) = some (0x1234, 0xC002, 20) := by decide
theorem test_V617_reti : sees { prog [0xD9] with sp := 0xC000, ram := [(0xC000, 0x34), (0xC001, 0x12)] } (fun t => (t.pc, t.sp, t.ime, t.cycles)) = some (0x1234, 0xC002, true, 16) := by decide
theorem test_V618_rst_38 : sees (prog [0xFF]) (fun t => (t.pc, t.sp, busRead t 0xFFFD, busRead t 0xFFFC, t.cycles)) = some (0x0038, 0xFFFC, 0x01, 0x01, 16) := by decide
theorem test_V701_nop : sees (prog [0x00]) (fun t => (t.pc, t.cycles)) = some (0x0101, 4) := by decide
theorem test_V703_halt_bug_armed : sees { prog [0x76] with ie := 0x01, ifr := 0x01 } (fun t => (t.mode, t.haltBug, t.pc, t.cycles)) = some (.halted, true, 0x0101, 4) := by decide
theorem test_V704_halt_without_gk : sees { prog [0x76] with ie := 0x01, ifr := 0x01, cfg := { Config.default with gkAdmitted := false } } (fun t => (t.mode, t.haltBug)) = some (.halted, false) := by decide
theorem test_V705_stop : sees { prog [0x10, 0x00] with ie := 0x01, ifr := 0x01 } (fun t => (t.mode, t.pc, t.cycles)) = some (.stopped, 0x0102, 4) := by decide
theorem test_V706_di : sees { prog [0xF3] with ime := true, eiPending := true } (fun t => (t.ime, t.eiPending, t.cycles)) = some (false, false, 4) := by decide
theorem test_V707_ei : sees (prog [0xFB]) (fun t => (t.ime, t.eiPending, t.cycles)) = some (false, true, 4) := by decide
theorem test_V709_ei_after_ei : sees { prog [0xFB] with eiPending := true } (fun t => (t.ime, t.eiPending)) = some (true, false) := by decide
theorem test_V710_illegal : sees (prog [0xD3]) (fun t => (t.mode, t.pc, t.cycles, t.faultInfo)) = some (.faulted, 0x0100, 0, some ⟨.unimplementedInstruction, 0x0100, 0xD3, false⟩) := by decide
theorem test_V711_illegal_after_ei : sees { prog [0xD3] with eiPending := true } (fun t => (t.mode, t.eiPending, t.ime)) = some (.faulted, true, false) := by decide
theorem test_V712_not_admitted : sees { prog [0x00] with cfg := { Config.default with gkAdmitted := false } } (fun t => (t.mode, t.pc, t.faultInfo)) = some (.faulted, 0x0100, some ⟨.notAdmitted, 0x0100, 0x00, false⟩) := by decide
theorem test_S8_without_gk : sees { prog [0xCB, 0x00] with cfg := { Config.default with gkAdmitted := false } } (fun t => (t.mode, t.faultInfo)) = some (.faulted, some ⟨.notAdmitted, 0x0100, 0x00, true⟩) := by decide
theorem test_V801_priority : sees { prog [0x00] with ime := true, ie := 0x1F, ifr := 0x06 } (fun t => (t.pc, t.ifr, t.ime, busRead t 0xFFFD, t.cycles)) = some (0x0048, 0x04, false, 0x01, 20) := by decide
theorem test_V802_joypad_vector : sees { prog [0x00] with ime := true, ie := 0x1F, ifr := 0x10 } (fun t => t.pc) = some 0x0060 := by decide
theorem test_V803_upper_bits_not_pending : sees { prog [0x00] with ime := true, ie := 0xE0, ifr := 0xE0 } (fun t => (t.pc, t.cycles)) = some (0x0101, 4) := by decide
theorem test_V804_cancelled_dispatch : sees { prog [0x00] with ime := true, ie := 0x01, ifr := 0x01, sp := 0x0000, pc := 0x1234 } (fun t => (t.ie, busRead t 0xFFFE, t.sp, t.pc, t.ifr)) = some (0x12, 0x34, 0xFFFE, 0x0000, 0x01) := by decide
theorem test_V805_wake_and_dispatch : sees { prog [0x76, 0x3C] with mode := .halted, pc := 0x0101, ime := true, ie := 0x01, ifr := 0x01 } (fun t => (t.mode, t.pc, busRead t 0xFFFD, busRead t 0xFFFC, t.cycles)) = some (.running, 0x0040, 0x01, 0x01, 24) := by decide
theorem test_V806_wake_without_dispatch : sees { prog [0x76, 0x3C, 0x76] with mode := .halted, pc := 0x0101, ie := 0x01, ifr := 0x01 } (fun t => (t.mode, t.a, t.pc, t.cycles)) = some (.running, 0x01, 0x0102, 8) := by decide
theorem test_V807_dispatch_from_the_halt_bug : sees { prog [0xFB, 0x76] with mode := .halted, haltBug := true, pc := 0x0102, ime := true, ie := 0x01, ifr := 0x01 } (fun t => (busRead t 0xFFFC, t.pc, t.ifr, t.haltBug, t.cycles)) = some (0x01, 0x0040, 0x00, false, 24) := by decide
theorem test_V808_halt_bug : sees { prog [0x76, 0x3E, 0x14] with mode := .halted, haltBug := true, pc := 0x0101, ie := 0x01, ifr := 0x01 } (fun t => (t.a, t.pc, t.haltBug, t.cycles)) = some (0x3E, 0x0102, false, 12) := by decide
theorem test_R1120_idle : sees { prog [0x76] with mode := .halted, pc := 0x0101 } (fun t => (t.mode, t.pc, t.cycles)) = some (.halted, 0x0101, 4) := by decide

/-- V610: a relative jump across the top of memory, its bytes in HRAM and IE. -/
theorem test_V610_jr_wraps : sees { State.reset with pc := 0xFFFE, ram := cell 0xFFFE 0x18, ie := 0x01 }
    (fun t => (t.pc, t.cycles)) = some (0x0001, 12) := by decide

/-! ### The bus and the host calls -/

theorem test_S6_echo : hostRead (hostWrite State.reset 0xC000 0x5A) 0xE000 = 0x5A := by decide
theorem test_S6_echo_reverse : hostRead (hostWrite State.reset 0xE000 0xA5) 0xC000 = 0xA5 := by decide
theorem test_V120_rom_write : hostRead (hostWrite { State.reset with rom := cell 0x0150 0x11 } 0x0150 0xAA) 0x0150 = 0x11 := by
  decide
theorem test_S1_pairs : (get16 .bc (setReg State.reset .bc 0xBEEF), get16 .af (setReg State.reset .af 0x12FF)) =
    (0xBEEF, 0x12F0) := by decide
/-- R1004 against R311 (log 27): EI with IME = 1, then a request by the host; whether the next step fetches NOP or dispatches. -/
def afterEi (hold : Bool) : State :=
  { prog [0xFB, 0x00] with pc := 0x0101, ime := true, eiPending := true, ie := 0x01, ifr := 0x01, cfg := { Config.default with eiHoldsDispatch := hold } }
theorem test_R1004_ei_holds : sees (afterEi true) (fun t => (t.pc, t.ime, t.eiPending)) = some (0x0102, true, false) := by decide
theorem test_R311_ei_does_not_hold : sees (afterEi false) (fun t => (t.pc, t.ime, t.eiPending)) = some (0x0040, false, false) := by
  decide
theorem test_V810_request : (requestInterrupt State.reset 2).map State.ifr = some 0x04 := by decide
theorem test_V810_rejected : requestInterrupt State.reset 5 = none := by decide
theorem test_V811_setter : ((setReg State.reset .f 0xFF).f, (setReg State.reset .af 0x1234).f,
    (setFlag { State.reset with f := 0x80 } .c true).f) = (0xF0, 0x30, 0x90) := by decide
theorem test_V809_wake : (hostWake { State.reset with mode := .stopped }).mode = .running := by decide
theorem test_step_result_of_a_fault : sees (prog [0xD3]) (stepResult (prog [0xD3])) =
    some ⟨.faulted, 0, some ⟨.unimplementedInstruction, 0x0100, 0xD3, false⟩⟩ := by decide
theorem test_fault_numbers : [FaultCode.unimplementedInstruction, .notAdmitted].map faultNumber = [1, 2] := rfl
theorem test_snapshot : (snapshot { State.reset with f := 0x90 }).flagC = true := by decide

/-! ### Initialization -/

/-- A catalog entry with no flags map. -/
def entry (bytes : Nat) (cycles : CyclesField) : CatalogEntry :=
  { mnemonic := "", bytes := bytes, cycles := cycles, operands := [], immediate := true, flags := none, comment := none }

/-- What initialize answers to a document with one unprefixed row: the error, or MAIN's entry for an opcode. -/
def loads (key : List Char) (e : CatalogEntry) (code : Byte) : Except LoadError (Option Entry) :=
  match initMachine true 0 .noMapper false PowerOn.zeros (.document ⟨[(key, e)], []⟩) [] with
  | .error err => .error err
  | .ok m => .ok (dispatchEntry m.machine.cfg false code)

theorem test_V901_reset : (initMachine true 0 .noMapper false PowerOn.dmg .standard []).toOption.map
    (fun m => (m.machine.pc, m.machine.sp, m.machine.mode, m.machine.a, m.machine.f)) = some (0x0100, 0xFFFE, .running, 0x01, 0xB0) := by decide
theorem test_V902_short_image : (initMachine true 0 .noMapper false PowerOn.zeros .standard [0x11, 0x22]).toOption.map
    (fun m => (hostRead m.machine 0x0001, hostRead m.machine 0x4000)) = some (0x22, 0x00) := by decide
theorem test_V903_long_image : initRom 2 [0x11, 0x22, 0x33] = [(0, 0x11), (1, 0x22)] := by decide
theorem test_V904_wrong_length : loads ['3', 'E'] (entry 1 (.number 8)) 0x3E = .error (.badLength false 0x3E) := rfl
theorem test_V905_pair_on_unconditional : loads ['C', '3'] (entry 3 (.pair 16 12)) 0xC3 = .error (.badCycles false 0xC3) := rfl
theorem test_V906_malformed_key : loads ['G', '0'] (entry 9 .other) 0x00 = .ok none := rfl
theorem test_V906_warning : (initMachine true 0 .noMapper false PowerOn.zeros
    (.document ⟨[(['G', '0'], entry 9 .other)], [(['1'], entry 9 .other)]⟩) []).toOption.map Initialized.warnings =
      some [['G', '0'], ['1']] := rfl
theorem test_V907_listed_opcode : loads ['0', '0'] (entry 1 (.number 4)) 0x00 = .ok (some ⟨true, .one 4⟩) := rfl
theorem test_hole_is_ignored : loads ['D', '3'] (entry 7 .other) 0xD3 = .ok none := rfl

/-! ### A supplied mapper: the byte written selects the bank, bank 0 reading as bank 1 -/

/-- A record of R11. -/
def bankMapper : MapperRecord :=
  { mstate0 := 1, mapperWrite := .ifEq (.and .byte (.const 0x1F)) (.const 0) (.const 1) (.and .byte (.const 0x1F)), romBank := .state }

/-- A machine with four banks of ROM, the first byte of each shown. -/
def banked : State := { resetState ⟨true, 2, .supplied bankMapper, .standard, false⟩ PowerOn.zeros [] with
  rom := [(0x4000, 0x11), (0x8000, 0x22), (0xC000, 0x33)] }

theorem test_mapper_start : (banked.mstate, hostRead banked 0x4000) = (1, 0x11) := by decide
theorem test_mapper_switch : [0x02#8, 0x03, 0x00].map (fun v => hostRead (hostWrite banked 0x2000 v) 0x4000) = [0x22, 0x33, 0x11] := by
  decide
theorem test_mapper_bank_modulo : hostRead (hostWrite banked 0x3FFF 0x06) 0x4000 = 0x22 := by decide
theorem test_mapper_window_only : (hostWrite banked 0x1FFF 0x02).mstate = 1 := by decide

/-! ### Placing an instruction where the step fetches -/

theorem test_fetch_word_runs : sees (State.reset.withFetchWord 8 0x3C) (fun t => (t.a, t.pc)) = some (0x01, 0x0101) := by decide
theorem test_fetch_word_prefixed : sees (State.reset.withFetchWord 16 0xCBC7) (fun t => (t.a, t.pc)) = some (0x01, 0x0102) := by
  decide

/-! ### Every hypothesis is met: for each statement and each of its clauses a concrete case -/

theorem sees_next {α : Type} {s : State} {g : State → α} {v : α} (h : sees s g = some v) :
    ∃ t, step s = .next t ∧ g t = v := by
  unfold sees at h
  split at h
  · rename_i t heq
    exact ⟨t, heq, Option.some.inj h⟩
  · cases h
  · cases h

/-- The start state without GK_ADMITTED. -/
def plain (bytes : List Byte) : State := { prog bytes with cfg := { Config.default with gkAdmitted := false } }

/-- The start state with a supplied catalog of two rows, NOP and RLC B. -/
def sparse (bytes : List Byte) : State :=
  { prog bytes with cfg := { Config.default with catalog := .supplied [(0x00, .one 4)] [(0x00, .one 8)] } }

/-- A RUNNING state at 0x1234 with all five sources pending and IME set. -/
def interrupted : State := { State.reset with pc := 0x1234, ime := true, ie := 0x1F, ifr := 0x1F }

-- EncodeThenDecode, DecodeThenEncode
theorem meets_encode_then_decode : WellFormed .set_7_A := by decide
theorem meets_decode_then_encode : decode [0xCB, 0xFF, 0x55] = .ok (.set_7_A, [0x55]) := rfl
theorem meets_decode_then_encode_lone_prefix : decode [0xCB] = .ok (.prefix_CB, []) := rfl

-- AluOpcodesByArithmetic, LoadBlockAndPrefixedTable
theorem meets_alu_opcodes : [AluOp.add, .adc, .sub, .sbc, .and, .xor, .or, .cp][7]? = some .cp ∧
    [R8.b, .c, .d, .e, .h, .l, .mHL, .a][7]? = some .a := ⟨rfl, rfl⟩
theorem meets_load_block_and_prefixed_table : [R8.b, .c, .d, .e, .h, .l, .mHL, .a][7]? = some .a ∧
    [R8.b, .c, .d, .e, .h, .l, .mHL, .a][6]? = some .mHL ∧
    [RotOp.rlc, .rrc, .rl, .rr, .sla, .sra, .swap, .srl][7]? = some .srl := ⟨rfl, rfl, rfl⟩

-- ResetValues, RomLoad
theorem meets_reset_values : ∃ s, s = resetState Config.default { PowerOn.dmg with ram := [(0xC000, 0x12), (0xFF0F, 0x34)] } [0x31] ∧
    s.f = 0xB0 ∧ isRamKey (0x8000#16).toNat = true ∧ isRamKey (0xFFFE#16).toNat = true ∧ busRead s 0xC000 = 0x12 ∧
    busRead s 0xFF0F = 0x00 := ⟨_, rfl, by decide⟩
theorem meets_rom_load : ∃ s, s = resetState Config.default PowerOn.zeros [0x31, 0xFE] ∧ 0x7FFF < Config.default.romCapacity ∧
    (0x3FFF#16).toNat ≤ 0x3FFF ∧ (0x7FFF#16).toNat ≤ 0x7FFF ∧ Config.default.romCapacity = 0x8000 ∧
    Config.default.mapper = .noMapper ∧ (1, 0xFE) ∈ s.rom := ⟨_, rfl, by decide⟩

-- EveryStepKeepsLegality, RomAndParametersNeverChange
theorem meets_legality : (prog [0x76]).Inv ∧ ∃ t, step (prog [0x76]) = .next t ∧ t.mode = .halted :=
  ⟨⟨by decide, by decide, by decide, by decide, by decide, by decide, by decide, by decide⟩, sees_next (by decide)⟩
theorem meets_legality_without_gk : (plain [0x40]).Inv ∧ (plain [0x40]).cfg.gkAdmitted = false ∧
    ∃ t, step (plain [0x40]) = .next t ∧ t.ime = false :=
  ⟨⟨by decide, by decide, by decide, by decide, by decide, by decide, by decide, by decide⟩, by decide, sees_next (by decide)⟩
theorem meets_rom_and_parameters : ∃ t, step (prog [0xEA, 0x00, 0x20]) = .next t ∧ t.pc = 0x0103 := sees_next (by decide)

-- StepRunsTheFetchedInstruction
theorem meets_step_runs : ∃ t, Fetches (prog [0x3E, 0x7F]) ∧ Admitted (prog [0x3E, 0x7F]) ⟨false, .one 8⟩ ∧
    decode [0x3E, 0x7F, 0x00] = .ok (.ld_A_d8 0x7F, [0x00]) ∧
    [busRead (prog [0x3E, 0x7F]) 0x0100, busRead (prog [0x3E, 0x7F]) (after 1 (prog [0x3E, 0x7F])),
      busRead (prog [0x3E, 0x7F]) (after 1 (prog [0x3E, 0x7F]) + 1)] = [0x3E, 0x7F, 0x00] ∧
    exec (.ld_A_d8 0x7F) (prog [0x3E, 0x7F]) = .next t :=
  ⟨_, by decide, ⟨by decide, by decide⟩, rfl, by decide, rfl⟩
theorem meets_step_runs_prefixed : ∃ t, Fetches (prog [0xCB, 0x40]) ∧ Admitted (prog [0xCB, 0x40]) ⟨true, .one 8⟩ ∧
    decode [0xCB, 0x40, 0x00] = .ok (.bit_0_B, [0x00]) ∧ exec .bit_0_B (prog [0xCB, 0x40]) = .next t :=
  ⟨_, by decide, ⟨by decide, by decide⟩, rfl, rfl⟩

-- DefaultCosts
theorem meets_default_costs : [Cond.nz, .z, .nc, .c][3]? = some .c ∧
    (0xC4, 24, 12) ∈ [(0x20, 12, 8), (0xC0, 20, 8), (0xC2, 16, 12), (0xC4, 24, 12)] := ⟨rfl, by decide⟩

-- OnlyTheseChangeTheMode, one case for each clause
theorem meets_mode_faulted : ∃ t, step { prog [] with mode := .faulted } = .next t ∧ t.mode = .faulted := sees_next (by decide)
theorem meets_mode_stopped : ∃ t, step { prog [] with mode := .stopped } = .next t ∧ t.mode = .stopped := sees_next (by decide)
theorem meets_mode_to_halted : ∃ t, step (prog [0x76]) = .next t ∧ t.mode = .halted := sees_next (by decide)
theorem meets_mode_stays_halted : ∃ t, step { prog [] with mode := .halted } = .next t ∧ t.mode = .halted :=
  sees_next (by decide)
theorem meets_mode_to_stopped : ∃ t, step (prog [0x10]) = .next t ∧ t.mode = .stopped := sees_next (by decide)
theorem meets_mode_to_faulted : (prog [0xFD]).mode ≠ .faulted ∧ ∃ t, step (prog [0xFD]) = .next t ∧ t.mode = .faulted :=
  ⟨by decide, sees_next (by decide)⟩

-- HaltedIdlesOrWakes, StoppedIdlesUntilTheWake
theorem meets_halted : ({ prog [] with mode := .halted, ie := 0x1F, ifr := 0xE0 } : State).mode = .halted ∧
    (0x1F#8 &&& 0xE0 &&& 0x1F) = 0 ∧ (0x10#8 &&& 0x10 &&& 0x1F) ≠ 0 := by decide
theorem meets_stopped : ({ prog [] with mode := .stopped } : State).mode = .stopped ∧ (prog []).mode ≠ .stopped := by decide

-- DecodeFaultIsPrecise, IllegalOpcodesFault, WithoutGkAdmittedOnlySourceOpcodesRun
theorem meets_decode_fault_unlisted : (sparse [0x04]).mode = .running ∧
    ¬Dispatches (sparse [0x04]) ∧
    false = decide (busRead (sparse [0x04]) 0x0100 = 0xCB) ∧ dispatchEntry (sparse [0x04]).cfg false 0x04 = none := by decide
theorem meets_decode_fault_not_admitted_after_halt :
    let s : State := { plain [0xCB, 0x11] with mode := .halted, ie := 0x10, ifr := 0x10 }
    (s.mode = .halted ∧ s.ie &&& s.ifr &&& 0x1F ≠ 0) ∧ ¬Dispatches s ∧
    true = decide (busRead s s.pc = 0xCB) ∧ busRead s (after 1 s) = 0x11 ∧
    dispatchEntry s.cfg true 0x11 = some ⟨true, .one 8⟩ ∧ s.cfg.gkAdmitted = false := by decide
theorem meets_illegal : Fetches (prog [0xFD]) ∧ busRead (prog [0xFD]) (prog [0xFD]).pc = 0xFD ∧
    (prog [0xFD]).cfg.catalog = .standard ∧ dispatchEntry (prog [0xFD]).cfg false 0xD3 = none := by decide
theorem meets_source_opcode : (plain [0xBF]).cfg.gkAdmitted = false ∧ Fetches (plain [0xBF]) ∧
    busRead (plain [0xBF]) (plain [0xBF]).pc = 0xBF ∧ dispatchEntry (plain [0xBF]).cfg false 0xBF ≠ none ∧
    SourceOpcode 0xBF ∧ SourceOpcode 0x40 ∧ SourceOpcode 0x3E := by decide
theorem meets_no_source_opcode : Fetches (plain [0xC0]) ∧ busRead (plain [0xC0]) (plain [0xC0]).pc = 0xC0 ∧
    dispatchEntry (plain [0xC0]).cfg false 0xC0 ≠ none ∧ ¬SourceOpcode 0xC0 ∧ ¬SourceOpcode 0x3F := by decide
theorem meets_no_source_prefixed : Fetches (plain [0xCB, 0xFF]) ∧
    busRead (plain [0xCB, 0xFF]) (plain [0xCB, 0xFF]).pc = 0xCB ∧
    dispatchEntry (plain [0xCB, 0xFF]).cfg true (busRead (plain [0xCB, 0xFF]) (after 1 (plain [0xCB, 0xFF]))) ≠ none := by
  decide

-- InterruptDispatch, DispatchGoesToTheLowestPendingVector
theorem meets_interrupt_cancelled :
    let s : State := { interrupted with sp := 0x0000, ie := 0x01, ifr := 0x01 }
    let high := busWrite { s with ime := false, eiPending := false, haltBug := false, sp := s.sp - 1 } (s.sp - 1) (hi s.pc)
    s.mode = .running ∧ s.ime = true ∧ s.ie &&& s.ifr &&& 0x1F ≠ 0 ∧
    ¬(s.cfg.eiHoldsDispatch = true ∧ s.eiPending = true) ∧ high.ie &&& high.ifr &&& 0x1F = 0 := by decide
theorem meets_interrupt_last_source :
    let s : State := { interrupted with ifr := 0x10, haltBug := true, cfg := { Config.default with eiHoldsDispatch := true } }
    s.mode = .running ∧ ¬(s.cfg.eiHoldsDispatch = true ∧ s.eiPending = true) ∧ s.ime = true ∧ s.ie &&& s.ifr &&& 0x1F = 0x10 ∧ (0x10#8).getLsbD 4 = true ∧
    ∀ j < 4, (0x10#8).getLsbD j = false := by decide
theorem meets_dispatch_first_source : interrupted.ram.wf ∧ interrupted.mode = .running ∧ interrupted.ime = true ∧
    interrupted.haltBug = false ∧ ¬(interrupted.cfg.eiHoldsDispatch = true ∧ interrupted.eiPending = true) ∧
    (interrupted.ie &&& interrupted.ifr).getLsbD 0 = true ∧
    (∀ j < 0, (interrupted.ie &&& interrupted.ifr).getLsbD j = false) ∧ interrupted.sp - 1 ≠ 0xFFFF ∧
    interrupted.sp - 1 ≠ 0xFF0F ∧ interrupted.sp - 2 ≠ 0xFF0F ∧ Writable (interrupted.sp - 1) ∧
    Writable (interrupted.sp - 2) ∧ ¬reachedBy interrupted.cfg (interrupted.sp - 1) 0xFFFF ∧
    ¬reachedBy interrupted.cfg (interrupted.sp - 2) 0xFFFF := by
  refine ⟨by decide, by decide, by decide, by decide, by decide, by decide, fun j hj => absurd hj (Nat.not_lt_zero j), by decide,
    by decide, by decide, by decide, by decide, by unfold reachedBy; decide, by unfold reachedBy; decide⟩
theorem meets_dispatch_last_source :
    let s : State := { interrupted with ifr := 0xF0 }
    (s.ie &&& s.ifr).getLsbD 4 = true ∧ (∀ j < 4, (s.ie &&& s.ifr).getLsbD j = false) ∧ s.sp - 1 ≠ 0xFFFF ∧
    s.sp - 1 ≠ 0xFF0F ∧ s.sp - 2 ≠ 0xFF0F := by decide

-- EiTakesEffectAfterTheNextInstruction, one case for each clause
theorem meets_ei_di : Fetches (prog [0xF3]) ∧ Admitted (prog [0xF3]) ⟨true, .one 4⟩ ∧
    ∃ t, step (prog [0xF3]) = .next t ∧ t.pc = 0x0101 := ⟨by decide, ⟨by decide, by decide⟩, sees_next (by decide)⟩
theorem meets_ei_reti : Fetches (prog [0xD9]) ∧ Admitted (prog [0xD9]) ⟨true, .one 16⟩ ∧
    ∃ t, step (prog [0xD9]) = .next t ∧ t.ime = true := ⟨by decide, ⟨by decide, by decide⟩, sees_next (by decide)⟩
theorem meets_ei_armed : let s : State := { prog [0x00] with eiPending := true }
    Fetches s ∧ Admitted s ⟨true, .one 4⟩ ∧ s.eiPending = true ∧ busRead s s.pc ≠ 0xF3 ∧
    ∃ t, step s = .next t ∧ t.ime = true :=
  ⟨by decide, ⟨by decide, by decide⟩, by decide, by decide, sees_next (by decide)⟩
theorem meets_ei_itself : Fetches (prog [0xFB]) ∧ Admitted (prog [0xFB]) ⟨true, .one 4⟩ ∧ (prog [0xFB]).eiPending = false ∧
    ∃ t, step (prog [0xFB]) = .next t ∧ t.eiPending = true :=
  ⟨by decide, ⟨by decide, by decide⟩, by decide, sees_next (by decide)⟩
theorem meets_ei_itself_enabled : let s : State := { prog [0xFB] with ime := true, ie := 0x1F, cfg := { Config.default with eiHoldsDispatch := true } }
    Fetches s ∧ Admitted s ⟨true, .one 4⟩ ∧ s.eiPending = false ∧ ∃ t, step s = .next t ∧ (t.ime, t.eiPending) = (true, true) :=
  ⟨by decide, ⟨by decide, by decide⟩, by decide, sees_next (g := fun t => (t.ime, t.eiPending)) (by decide)⟩
theorem meets_ei_other : Fetches (prog [0x00]) ∧ Admitted (prog [0x00]) ⟨true, .one 4⟩ ∧ (prog [0x00]).eiPending = false ∧
    busRead (prog [0x00]) (prog [0x00]).pc = 0x00 ∧ ∃ t, step (prog [0x00]) = .next t ∧ t.eiPending = false :=
  ⟨by decide, ⟨by decide, by decide⟩, by decide, by decide, sees_next (by decide)⟩

-- The address bus: the ends of each range, and what the statements say at them
theorem meets_storage_regions : State.reset.ram.wf ∧
    [0x8000#16, 0xBFFF, 0xFE00, 0xFE9F, 0xFF00, 0xFF0F, 0xFFFF].map (fun a => hostRead (hostWrite State.reset a 0x5A) a) =
      [0x5A, 0x5A, 0x5A, 0x5A, 0x5A, 0x5A, 0x5A] ∧
    [0xFEA0#16, 0xFEFF].map (fun a => hostRead (hostWrite State.reset a 0x5A) a) = [0x00, 0x00] := by decide
theorem meets_echo : State.reset.ram.wf ∧ (0xDDFF#16).toNat ≤ 0xDDFF ∧
    hostRead (hostWrite State.reset 0xDDFF 0x5A) 0xFDFF = 0x5A ∧ hostRead (hostWrite State.reset 0xDE00 0x5A) 0xFE00 = 0x00 ∧
    hostRead (hostWrite State.reset 0xDFFF 0x5A) 0xDFFF = 0x5A := by decide
theorem meets_rom_writes : (0x1FFF#16).toNat ≤ 0x1FFF ∧ 0x2000 ≤ (0x2000#16).toNat ∧ (0x3FFF#16).toNat ≤ 0x3FFF ∧
    0x4000 ≤ (0x4000#16).toNat ∧ (0x7FFF#16).toNat ≤ 0x7FFF ∧ State.reset.cfg.mapper = .noMapper := by decide
theorem meets_rom_window : let s : State := { State.reset with rom := [(0x3FFF, 0x11), (0x4000, 0x22), (0x7FFF, 0x33)] }
    s.cfg.mapper = .noMapper ∧ [0x3FFF#16, 0x4000, 0x7FFF].map (busRead s) = [0x11, 0x22, 0x33] := by decide

-- RequestInterruptSetsOneBit, SetFlagChangesOneFlag
theorem meets_request : (requestInterrupt State.reset 4).map State.ifr = some 0x10 ∧ requestInterrupt State.reset 5 = none := by
  decide
theorem meets_set_flag : ∃ t, t = setFlag { State.reset with f := 0xF0 } .z false ∧ t.f = 0x70 := ⟨_, rfl, by decide⟩

-- SetRegWritesOneRegister
theorem meets_set_reg : (RegName.f, { State.reset.regs with f := lo 0x12FF &&& 0xF0 }) ∈
      [(RegName.a, { State.reset.regs with a := lo 0x12FF }), (.f, { State.reset.regs with f := lo 0x12FF &&& 0xF0 })] ∧
    (setReg State.reset .f 0x12FF).f = 0xF0 ∧ (setReg State.reset .pc 0xFFFF).pc = 0xFFFF := by decide

-- BadCatalogGivesNoMachine: one case for each check and each kind of skipped row
theorem meets_bad_catalog_length :
    (['3', 'E'], entry 1 (.number 8)) ∈ docRows ⟨[(['3', 'E'], entry 1 (.number 8))], []⟩ false ∧
    LooksAt false ['3', 'E'] 0x3E ∧ ¬PassesChecks false 0x3E (entry 1 (.number 8)) :=
  ⟨by decide, ⟨by decide, by decide⟩, fun h => absurd h.length (by decide)⟩
theorem meets_bad_catalog_cost : LooksAt false ['F', 'F'] 0xFF ∧ ¬PassesChecks false 0xFF (entry 1 .other) := by
  refine ⟨⟨by decide, by decide⟩, fun h => ?_⟩
  rcases h.cycles with ⟨t, ht⟩ | ⟨t, n, ht, -⟩ <;> cases ht
theorem meets_bad_catalog_pair : LooksAt false ['1', '8'] 0x18 ∧ ¬PassesChecks false 0x18 (entry 2 (.pair 12 8)) := by
  refine ⟨⟨by decide, by decide⟩, fun h => ?_⟩
  rcases h.cycles with ⟨t, ht⟩ | ⟨t, n, -, cc, hcc⟩
  · cases ht
  · exact absurd hcc (by revert cc; decide)
theorem meets_bad_catalog_flags : LooksAt true ['7', 'E'] 0x7E ∧
    ¬PassesChecks true 0x7E { entry 2 (.number 12) with flags := some ⟨'-', '0', '1', '-'⟩ } :=
  ⟨⟨by decide, by decide⟩, fun h => absurd (h.flags _ rfl) (by decide)⟩
theorem meets_skipped_rows : keyByte ['G', '0'] = none ∧ keyByte ['D', '3'] = some 0xD3 ∧ (0xD3 : Byte) ∈ holes ∧
    keyByte ['F', 'D'] = some 0xFD ∧ (0xFD : Byte) ∈ holes := by decide

-- CatalogThatPassesLoads, DispatchTablesHoldTheListedOpcodes: a document with a row for a hole and a malformed key
/-- A document that loads: NOP, JR NZ with a pair, a hole, a malformed key, and SET 7,A. -/
def goodDoc : CatalogDoc :=
  ⟨[(['0', '0'], entry 1 (.number 4)), (['2', '0'], entry 2 (.pair 12 8)), (['D', '3'], entry 7 .other),
      (['G', '0'], entry 9 .other)], [(['F', 'F'], { entry 2 (.number 8) with flags := some ⟨'-', '-', '-', '-'⟩ })]⟩

theorem meets_catalog_that_passes (prefixed : Bool) (key : List Char) (e : CatalogEntry) (code : Byte)
    (hm : (key, e) ∈ docRows goodDoc prefixed) (hl : LooksAt prefixed key code) : PassesChecks prefixed code e := by
  obtain ⟨hk, hh⟩ := hl
  cases prefixed <;> simp only [docRows, goodDoc, List.mem_cons, List.not_mem_nil, or_false, Prod.mk.injEq, if_true,
    Bool.false_eq_true, if_false] at hm
  · rcases hm with ⟨rfl, rfl⟩ | ⟨rfl, rfl⟩ | ⟨rfl, rfl⟩ | ⟨rfl, rfl⟩ <;> cases hk
    · exact ⟨by decide, .inl ⟨4, rfl⟩, fun m h => nomatch h⟩
    · exact ⟨by decide, .inr ⟨12, 8, rfl, .nz, by decide⟩, fun m h => nomatch h⟩
    · exact absurd ⟨rfl, by decide⟩ hh
  · obtain ⟨rfl, rfl⟩ := hm
    cases hk
    exact ⟨by decide, .inl ⟨8, rfl⟩, fun m h => by cases h; decide⟩
theorem meets_dispatch_tables : ∃ m, initMachine true 0 .noMapper false PowerOn.zeros (.document goodDoc) [] = .ok m ∧
    dispatchEntry m.machine.cfg true 0xFF = some ⟨true, .one 8⟩ ∧
    dispatchEntry m.machine.cfg false 0x20 = some ⟨true, .pair 12 8⟩ ∧ dispatchEntry m.machine.cfg false 0xD3 = none ∧
    LooksAt true ['F', 'F'] 0xFF := ⟨_, rfl, by decide, by decide, by decide, ⟨by decide, by decide⟩⟩

-- LoadRegisterOrMemory, the memory forms and the last register
theorem meets_load_store : (R8.a, State.reset.a) ∈ [(R8.mHL, busRead State.reset 0xC000), (.a, State.reset.a)] ∧
    ¬(R8.mHL = .mHL ∧ R8.a = .mHL) := by decide
theorem meets_load_from_memory : let s : State := { State.reset with h := 0xC0 }
    (R8.mHL, busRead s 0xC000) ∈ [(R8.b, s.b), (.mHL, busRead s (cat s.h s.l)), (.a, s.a)] ∧ ¬(R8.b = .mHL ∧ R8.mHL = .mHL) := by
  decide
theorem meets_stored_byte : State.reset.ram.wf ∧ Writable 0xFFFF ∧ Writable 0x8000 ∧ ¬Writable 0x7FFF ∧ ¬Writable 0xFEFF ∧
    ramKey 0xE000 = ramKey 0xC000 ∧ ¬reachedBy Config.default 0xC000 0xC001 ∧ ¬reachedBy Config.default 0x2000 0x4000 := by
  refine ⟨by decide, by decide, by decide, by decide, by decide, by decide, by unfold reachedBy; decide,
    by unfold reachedBy; decide⟩

-- Statements over a list of instructions: the first and last row of each list that has forms of two kinds
theorem meets_rows : (aluImm .cp 0x01, 2, (0x01 : Byte), 0, true) ∈ [(aluBlock .sub .a, 1, (0x00 : Byte), 0, false),
    (aluImm .cp 0x01, 2, 0x01, 0, true)] ∧ (Instr.rra, RotOp.rr) ∈ [(Instr.rlca, RotOp.rlc), (.rrca, .rrc), (.rla, .rl), (.rra, .rr)] ∧
    (setBlock 7 .mHL, true) ∈ [(resBlock 7 .mHL, false), (setBlock 7 .mHL, true)] := by decide

-- DecimalAdjust
theorem meets_daa : flagN State.reset = false ∧ flagN { State.reset with f := 0x40 } = true := by decide

-- PopPair, Returns
theorem meets_pop : let s : State := { State.reset with sp := 0xFFFF, ie := 0x12 }
    ∃ h l, h = busRead s (s.sp + 1) ∧ l = busRead s s.sp ∧ l = 0x12 := ⟨_, _, rfl, rfl, by decide⟩
theorem meets_return : let s : State := { State.reset with sp := 0xC000, ram := [(0xC000, 0x34), (0xC001, 0x12)] }
    ∃ target, target = cat (busRead s (s.sp + 1)) (busRead s s.sp) ∧ target = 0x1234 := ⟨_, rfl, by decide⟩
theorem meets_conditions : (!flagZ State.reset) = true ∧ flagZ State.reset = false ∧ flagC { State.reset with f := 0x10 } = true ∧
    (!flagC { State.reset with f := 0x10 }) = false := by decide

-- TestBit, ClearAndSetBit
theorem meets_bit_number : 7 < 8 ∧ (resBlock 7 .a, false) ∈ [(resBlock 7 .a, false), (setBlock 7 .a, true)] := by decide

end Sys2Proof.Tests
end

/-!
PROOFS. The gate of GK_ADMITTED (00_scope.md R12, 60_exceptions.md R1102): what a fetching step does with a dispatch entry that
may run and with one that may not, and which instructions the opcodes that the source settles are.
-/

namespace Sys2Proof.Machine

/-! ### The fetched opcode -/

/-- What the step sees of a first byte that is not the prefix: the byte itself selects from MAIN. -/
theorem fetched_of_unprefixed {s : State} (h : busRead s s.pc ≠ 0xCB) :
    fetchedPrefixed s = false ∧ fetchedCode s = busRead s s.pc ∧
      fetchedEntry s = dispatchEntry s.cfg false (busRead s s.pc) := by
  have hp : fetchedPrefixed s = false := decide_eq_false h
  simp [fetchedEntry, fetchedCode, hp]

/-- What the step sees of the prefix: the byte after it selects from CB. -/
theorem fetched_of_prefixed {s : State} (h : busRead s s.pc = 0xCB) :
    fetchedPrefixed s = true ∧ fetchedCode s = busRead s (operandPc s) ∧
      fetchedEntry s = dispatchEntry s.cfg true (busRead s (operandPc s)) := by
  have hp : fetchedPrefixed s = true := decide_eq_true h
  simp [fetchedEntry, fetchedCode, hp]

/-! ### The step at a dispatch entry -/

theorem step_of_fetches {s : State} (h : Fetches s) : step s = fetchExecute 0 s := by
  obtain ⟨hmode, hno⟩ := h
  simp [step, engineStep, runStep, hmode, hno]

theorem fetchExecute_of_admitted {s t : State} {entry : Entry} (wake : Nat) (h : Admitted s entry)
    (hx : exec (fetchedInstr s) s = .next t) : fetchExecute wake s = .next (retire wake entry.cost s t) := by
  obtain ⟨he, hgk⟩ := h
  have hrun : (entry.gk && !s.cfg.gkAdmitted) = false := by
    cases hg : entry.gk
    · rfl
    · simp [hgk hg]
  simp [fetchExecute, he, hrun, hx]

theorem fetchExecute_of_not_admitted {s : State} {entry : Entry} (wake : Nat) (he : fetchedEntry s = some entry)
    (hgk : entry.gk = true) (hoff : s.cfg.gkAdmitted = false) :
    fetchExecute wake s = .next (decodeFault .notAdmitted (fetchedCode s) (fetchedPrefixed s) s) := by
  simp [fetchExecute, he, hgk, hoff]

@[simp] theorem promoteEi_mode (armed : Bool) (t : State) : (promoteEi armed t).mode = t.mode := by
  unfold promoteEi; split <;> rfl

@[simp] theorem retire_mode (wake : Nat) (cost : Cost) (s t : State) : (retire wake cost s t).mode = t.mode := by
  simp [retire]

/-! ### The gk mark -/

/-- A listed opcode's entry has the mark that the opcode alone gives it (R304). -/
theorem dispatchEntry_gk {cfg : Config} {prefixed : Bool} {code : Byte} (h : dispatchEntry cfg prefixed code ≠ none) :
    ∃ entry, dispatchEntry cfg prefixed code = some entry ∧ entry.gk = gkMarked prefixed code := by
  obtain ⟨entry, he⟩ := Option.ne_none_iff_exists'.mp h
  refine ⟨entry, he, ?_⟩
  unfold dispatchEntry at he
  split at he
  · cases he
  · obtain ⟨t, -, rfl⟩ := Option.map_eq_some_iff.mp he
    rfl

/-- The opcodes that the source settles, by the fields x and z of R301: the load block, the accumulator block, and the
columns INC r, DEC r and LD r,d8. -/
theorem sourceOpcode_iff_fields (op : Byte) :
    SourceOpcode op ↔ fieldX op = 1 ∨ fieldX op = 2 ∨ (fieldX op = 0 ∧ (fieldZ op = 4 ∨ fieldZ op = 5 ∨ fieldZ op = 6)) := by
  unfold SourceOpcode fieldX fieldZ
  omega

/-- The prefix byte is unmarked as well (R12): its CB entries carry the mark. -/
theorem gkMarked_eq_false_iff {op : Byte} (h : op ≠ 0xCB) : gkMarked false op = false ↔ SourceOpcode op := by
  simp only [gkMarked, sourceOpcode_iff_fields, Bool.false_or, Bool.not_eq_false', Bool.or_eq_true, Bool.and_eq_true,
    decide_eq_true_eq, h, or_false, or_assoc]

@[simp] theorem gkMarked_prefixed (code : Byte) : gkMarked true code = true := rfl

/-! ### The instructions of the source's opcodes -/

theorem SourceOpcode.ne_prefix {op : Byte} (h : SourceOpcode op) : op ≠ 0xCB := by
  rintro rfl
  exact absurd h (by decide)

theorem decodeBytes_of_source {op : Byte} (h : SourceOpcode op) (b1 b2 : Byte) :
    (∃ dst src, decodeBytes op b1 b2 = ldBlock dst src) ∨ (∃ alu r, decodeBytes op b1 b2 = aluBlock alu r) ∨
      (∃ r, decodeBytes op b1 b2 = inc8Of r) ∨ (∃ r, decodeBytes op b1 b2 = dec8Of r) ∨
      ∃ r, decodeBytes op b1 b2 = ldImm8 r b1 := by
  simp only [decodeBytes, if_neg h.ne_prefix]
  rcases (sourceOpcode_iff_fields op).mp h with hx | hx | ⟨hx, hz | hz | hz⟩
  · exact .inl ⟨r8OfIndex (fieldY op), r8OfIndex (fieldZ op), by simp [mainForm, hx]⟩
  · exact .inr (.inl ⟨aluOfIndex (fieldY op), r8OfIndex (fieldZ op), by simp [mainForm, hx]⟩)
  · exact .inr (.inr (.inl ⟨r8OfIndex (fieldY op), by simp [mainForm, mainLow, hx, hz]⟩))
  · exact .inr (.inr (.inr (.inl ⟨r8OfIndex (fieldY op), by simp [mainForm, mainLow, hx, hz]⟩)))
  · exact .inr (.inr (.inr (.inr ⟨r8OfIndex (fieldY op), by simp [mainForm, mainLow, hx, hz]⟩)))

/-- The load block keeps MODE, but for HALT in its slot (HL),(HL) (R304, R1001). -/
theorem exec_ldBlock_mode (dst src : R8) (s : State) :
    ∃ t, exec (ldBlock dst src) s = .next t ∧ (t.mode = s.mode ∨ t.mode = .halted) := by
  by_cases h : dst = .mHL ∧ src = .mHL
  · obtain ⟨rfl, rfl⟩ := h
    exact ⟨haltCore (advance 0 s), rfl, .inr rfl⟩
  · exact ⟨_, exec_ldBlock dst src s h, .inl (by simp)⟩

/-- An instruction that the source settles keeps MODE or halts; it never faults. -/
theorem exec_source_mode {op : Byte} (h : SourceOpcode op) (b1 b2 : Byte) (s : State) :
    ∃ t, exec (decodeBytes op b1 b2) s = .next t ∧ (t.mode = s.mode ∨ t.mode = .halted) := by
  rcases decodeBytes_of_source h b1 b2 with ⟨dst, src, hi⟩ | ⟨alu, r, hi⟩ | ⟨r, hi⟩ | ⟨r, hi⟩ | ⟨r, hi⟩ <;> rw [hi]
  · exact exec_ldBlock_mode dst src s
  · exact ⟨_, exec_aluBlock alu r s, .inl (by simp)⟩
  · exact ⟨_, exec_inc8Of r s, .inl (by simp)⟩
  · exact ⟨_, exec_dec8Of r s, .inl (by simp)⟩
  · exact ⟨_, exec_ldImm8 r b1 s, .inl (by simp)⟩

/-! ### The step without GK_ADMITTED -/

/-- A fetched opcode that is listed and marked gk faults NOT_ADMITTED when GK_ADMITTED is false. -/
theorem step_of_marked {s : State} (hoff : s.cfg.gkAdmitted = false) (hf : Fetches s) (hl : fetchedEntry s ≠ none)
    (hgk : gkMarked (fetchedPrefixed s) (fetchedCode s) = true) :
    step s = .next (decodeFault .notAdmitted (fetchedCode s) (fetchedPrefixed s) s) := by
  obtain ⟨entry, he, hmark⟩ := dispatchEntry_gk hl
  rw [step_of_fetches hf]
  exact fetchExecute_of_not_admitted 0 he (hmark.trans hgk) hoff

/-- A fetched opcode that is listed and that the source settles runs, under either setting of GK_ADMITTED. -/
theorem step_of_source {s : State} (hf : Fetches s) (hl : fetchedEntry s ≠ none) (hsrc : SourceOpcode (busRead s s.pc)) :
    ∃ t, step s = .next t ∧ t.mode ≠ .faulted := by
  obtain ⟨hp, hc, -⟩ := fetched_of_unprefixed hsrc.ne_prefix
  obtain ⟨entry, he, hmark⟩ := dispatchEntry_gk hl
  have hadm : Admitted s entry := by
    refine ⟨he, fun hgk => ?_⟩
    rw [hmark, hp, hc, (gkMarked_eq_false_iff hsrc.ne_prefix).mpr hsrc] at hgk
    cases hgk
  obtain ⟨t, hx, hmode⟩ := exec_source_mode hsrc (busRead s (operandPc s)) (busRead s (operandPc s + 1)) s
  refine ⟨retire 0 entry.cost s t, (step_of_fetches hf).trans (fetchExecute_of_admitted 0 hadm hx), ?_⟩
  rcases hmode with hmode | hmode
  · simp [hmode, hf.1]
  · simp [hmode]

/-- Settles O18: an opcode's gk mark, read off its fields, decides between `step_of_source` and `step_of_marked`. -/
theorem withoutGkAdmittedOnlySourceOpcodesRun : Obligations.WithoutGkAdmittedOnlySourceOpcodesRun := by
  rintro s op hoff hf rfl
  refine ⟨fun hop hl hsrc => ?_, fun hop hl hsrc => ?_, fun hop hl => ?_⟩
  · obtain ⟨-, -, he⟩ := fetched_of_unprefixed hop
    exact step_of_source hf (he ▸ hl) hsrc
  · obtain ⟨hp, hc, he⟩ := fetched_of_unprefixed hop
    have hgk := eq_true_of_ne_false (mt (gkMarked_eq_false_iff hop).mp hsrc)
    have hstep := step_of_marked hoff hf (he ▸ hl) (by rwa [hp, hc])
    rwa [hp, hc] at hstep
  · obtain ⟨hp, hc, he⟩ := fetched_of_prefixed hop
    rw [after_one] at hl ⊢
    have hstep := step_of_marked hoff hf (he ▸ hl) (by rw [hp, gkMarked_prefixed])
    rwa [hp, hc] at hstep

end Sys2Proof.Machine

/-!
PROOFS. Power-on values, register pairs and flags (10_state.md R101 to R105, R140; 60_exceptions.md R1144): what the reset state
holds, that it is legal for every choice of the parameters, and what the host's register calls write.
-/

namespace Sys2Proof.Machine

/-! ### The low nibble of F -/

theorem lowNibble_and_0xF0 (v : Byte) : (v &&& 0xF0) &&& 0x0F = 0 := by
  rw [BitVec.and_assoc]
  exact BitVec.and_zero

theorem flagByte_lowNibble (z n h c : Bool) : flagByte z n h c &&& 0x0F = 0 := by
  cases z <;> cases n <;> cases h <;> cases c <;> rfl

/-- Clearing the low nibble of a pair clears it in the low byte and keeps the high byte. -/
theorem cat_hi_lo_and_0xF0 (v : Word) : cat (hi v) (lo v &&& 0xF0) = v &&& 0xFFF0 := by
  have hhi : hi (v &&& 0xFFF0) = hi v := by
    rw [hi, BitVec.extractLsb'_and]
    exact BitVec.and_allOnes
  have hlo : lo (v &&& 0xFFF0) = lo v &&& 0xF0 := BitVec.extractLsb'_and
  rw [← cat_hi_lo (v &&& 0xFFF0), hhi, hlo]

/-! ### Register pairs and flags -/

/-- Settles O27: each pair is written as the two halves of the value, which `cat_hi_lo` puts together again. -/
theorem pairWritesRoundTrip : Obligations.PairWritesRoundTrip := fun _ v =>
  ⟨cat_hi_lo v, cat_hi_lo v, cat_hi_lo v, cat_hi_lo_and_0xF0 v⟩

/-- set_flag writes F as the flag byte of the named flag's new value and the other three as they were (R1144). -/
theorem setFlag_eq_setFlags (s : State) (flag : FlagName) (v : Bool) :
    setFlag s flag v = setFlags (if flag = .z then v else flagZ s) (if flag = .n then v else flagN s)
      (if flag = .h then v else flagH s) (if flag = .c then v else flagC s) s := by
  cases flag <;> rfl

/-- Settles O28: a flag byte holds the four flags it is made of and a low nibble of 0 (`flagsAre_of_f`). -/
theorem setFlagChangesOneFlag : Obligations.SetFlagChangesOneFlag := by
  rintro s t flag v rfl
  rw [setFlag_eq_setFlags]
  obtain ⟨hz, hn, hh, hc, hlow⟩ := flagsAre_of_f (setFlags_f (if flag = .z then v else flagZ s)
    (if flag = .n then v else flagN s) (if flag = .h then v else flagH s) (if flag = .c then v else flagC s) s)
  exact ⟨rfl, hlow, hz, hn, hh, hc⟩

/-! ### The reset state -/

/-- A bus address that is its own storage key in `ram`: neither ECHO nor IE nor IF (R131, R208). -/
theorem storage_of_isRamKey {addr : Word} (h : isRamKey addr.toNat = true) :
    Writable addr ∧ ramKey addr = addr.toNat ∧ addr.toNat ≠ 0xFFFF ∧ addr.toNat ≠ 0xFF0F := by
  revert h
  rcases region_range addr with ⟨hreg, hr⟩ | ⟨hreg, hr⟩ | ⟨hreg, hr⟩ | ⟨hreg, hr⟩ | ⟨hreg, hr⟩ | ⟨hreg, hr⟩ | ⟨hreg, hr⟩ |
    ⟨hreg, hr⟩ | ⟨hreg, hr⟩ | ⟨hreg, hr⟩ | ⟨hreg, hr⟩ <;> simp [Writable, ramKey, isRamKey, hreg] <;> omega

/-- What the bus reads at a RAM address right after reset (R140). -/
theorem busRead_resetState (cfg : Config) (p : PowerOn) (image : List Byte) {addr : Word}
    (h : isRamKey addr.toNat = true) :
    busRead (resetState cfg p image) addr = (p.ram.lookup addr.toNat).getD 0x00 := by
  obtain ⟨hw, hkey, hie, hif⟩ := storage_of_isRamKey h
  rw [busRead_storage _ hw, hkey, if_neg hie, if_neg hif]
  exact initRam_read p.ram h

/-- The flags after reset are those of RESET_GPR (R101, R140). -/
theorem resetState_flagsAre (cfg : Config) (p : PowerOn) (image : List Byte) :
    FlagsAre (resetState cfg p image) (p.f.getLsbD 7) (p.f.getLsbD 6) (p.f.getLsbD 5) (p.f.getLsbD 4) := by
  refine ⟨?_, ?_, ?_, ?_, lowNibble_and_0xF0 p.f⟩ <;>
    simp [flagZ, flagN, flagH, flagC, resetState]

theorem reset_eq_resetState : State.reset = resetState Config.default PowerOn.zeros [] := rfl

/-- Settles O6: the flags by `resetState_flagsAre`, the RAM arrays by `busRead_resetState`, the rest as `resetState` lists it. -/
theorem resetValues : Obligations.ResetValues := by
  refine ⟨?_, reset_eq_resetState⟩
  rintro cfg p image s rfl
  obtain ⟨hz, hn, hh, hc, hlow⟩ := resetState_flagsAre cfg p image
  exact ⟨rfl, rfl, rfl, rfl, rfl, rfl, rfl, rfl, rfl, rfl, rfl, rfl, rfl, rfl, rfl, rfl, hz, hn, hh, hc, hlow, rfl, rfl, rfl,
    fun _ => busRead_resetState cfg p image⟩

theorem initRam_keys (cells : List Host.Cell) : ∀ x ∈ initRam cells, isRamKey x.1 = true := by
  induction cells with
  | nil => simp [initRam]
  | cons cell cells ih =>
    obtain ⟨key, v⟩ := cell
    intro x hx
    unfold initRam at hx
    split at hx
    · next hkey =>
      rcases Memory.mem_write hx with hx | ⟨rfl, -⟩
      · exact ih x hx
      · exact hkey
    · exact ih x hx

theorem initRom_keys (capacity : Nat) (image : List Byte) : ∀ x ∈ initRom capacity image, x.1 < capacity := by
  intro x hx
  have hkey := (Memory.ofBytes_keys 0 (image.take capacity) x hx).2
  rw [List.length_take] at hkey
  omega

/-- The reset state is legal whatever the parameters, the power-on contents and the image. -/
theorem resetState_inv (cfg : Config) (p : PowerOn) (image : List Byte) : (resetState cfg p image).Inv where
  fLow := lowNibble_and_0xF0 p.f
  romWf := initRom_wf cfg.romCapacity image
  ramWf := initRam_wf p.ram
  romKeys := initRom_keys cfg.romCapacity image
  ramKeys := initRam_keys p.ram
  faultMode := by simp [resetState]
  haltBugMode := by simp [resetState]
  gkOff _ := ⟨rfl, rfl, rfl⟩

/-- Settles O7: State.reset is the reset state of the default parameters, with zeros and without an image. -/
theorem resetIsLegal : Obligations.ResetIsLegal := by
  unfold Obligations.ResetIsLegal
  rw [reset_eq_resetState]
  exact resetState_inv Config.default PowerOn.zeros []

end Sys2Proof.Machine

/-!
PROOFS. What one instruction can do to the engine state (10_state.md R120 to R125): nearly all instructions keep it, and the five
that do not, HALT, STOP, DI, EI and RETI, are told by their opcode byte.
-/

namespace Sys2Proof.Machine

/-! ### Operations that keep the engine state -/

/-- The part of a legal state that instructions write: F's low nibble is 0 (R101) and RAM is in canonical form within its
arrays (R131). -/
structure Tidy (s : State) : Prop where
  fLow : s.f &&& 0x0F = 0
  ramWf : s.ram.wf
  ramKeys : ∀ x ∈ s.ram, isRamKey x.1 = true

/-- What writing registers and memory only keeps from `s` to `t`. -/
structure Keeps (s t : State) : Prop where
  engine : t.engine = s.engine
  haltBug : t.haltBug = s.haltBug
  tidy : Tidy s → Tidy t

theorem Keeps.refl (s : State) : Keeps s s := ⟨rfl, rfl, id⟩

section Extend
variable {s t : State}

/-- Writing what neither the engine state nor `Tidy` speaks of. -/
theorem Keeps.frame {u : State} (k : Keeps s t) (he : u.engine = t.engine) (hb : u.haltBug = t.haltBug) (hf : u.f = t.f)
    (hram : u.ram = t.ram) : Keeps s u where
  engine := he.trans k.engine
  haltBug := hb.trans k.haltBug
  tidy ht := by
    obtain ⟨hlow, hwf, hkeys⟩ := k.tidy ht
    exact ⟨hf ▸ hlow, hram ▸ hwf, hram ▸ hkeys⟩

theorem Keeps.setA (k : Keeps s t) (v : Byte) : Keeps s { t with a := v } := k.frame rfl rfl rfl rfl

theorem Keeps.setPc (k : Keeps s t) (w : Word) : Keeps s { t with pc := w } := k.frame rfl rfl rfl rfl

theorem Keeps.setSp (k : Keeps s t) (w : Word) : Keeps s { t with sp := w } := k.frame rfl rfl rfl rfl

theorem Keeps.setFlags (k : Keeps s t) (z n h c : Bool) : Keeps s (setFlags z n h c t) :=
  ⟨k.engine, k.haltBug, fun ht => ⟨flagByte_lowNibble z n h c, (k.tidy ht).ramWf, (k.tidy ht).ramKeys⟩⟩

theorem Keeps.busWrite (k : Keeps s t) (addr : Word) (v : Byte) : Keeps s (busWrite t addr v) where
  engine := by rw [busWrite_engine, k.engine]
  haltBug := by rw [busWrite_haltBug, k.haltBug]
  tidy ht := by
    obtain ⟨hlow, hwf, hkeys⟩ := k.tidy ht
    exact ⟨by rw [busWrite_f, hlow], busWrite_ram_wf hwf addr v, busWrite_ram_keys hkeys addr v⟩

theorem Keeps.set8 (k : Keeps s t) (r : R8) (v : Byte) : Keeps s (set8 r v t) := by
  cases r
  case mHL => exact k.busWrite _ v
  all_goals exact k.frame rfl rfl rfl rfl

theorem Keeps.set16 (k : Keeps s t) (rr : Reg16) (v : Word) : Keeps s (set16 rr v t) := by
  cases rr
  case af => exact ⟨k.engine, k.haltBug, fun ht => ⟨lowNibble_and_0xF0 (lo v), (k.tidy ht).ramWf, (k.tidy ht).ramKeys⟩⟩
  all_goals exact k.frame rfl rfl rfl rfl

theorem Keeps.loadA (k : Keeps s t) (addr : Word) : Keeps s (loadA addr t) := k.setA _

theorem Keeps.push16 (k : Keeps s t) (v : Word) : Keeps s (push16 v t) :=
  (((k.setSp _).busWrite _ _).setSp _).busWrite _ _

theorem Keeps.aluA (k : Keeps s t) (op : AluOp) (v : Byte) : Keeps s (aluA op v t) := (k.setA _).setFlags _ _ _ _

theorem Keeps.inc8 (k : Keeps s t) (r : R8) : Keeps s (inc8 r t) := (k.set8 r _).setFlags _ _ _ _

theorem Keeps.dec8 (k : Keeps s t) (r : R8) : Keeps s (dec8 r t) := (k.set8 r _).setFlags _ _ _ _

theorem Keeps.spPlus (k : Keeps s t) (dst : Reg16) (e : Byte) : Keeps s (spPlus dst e t) :=
  (k.set16 dst _).setFlags _ _ _ _

theorem Keeps.cbEffect (k : Keeps s t) (code : Byte) : Keeps s (cbEffect code t) := by
  unfold Machine.cbEffect
  split
  · exact (k.set8 _ _).setFlags _ _ _ _
  · exact k.setFlags _ _ _ _
  · exact k.set8 _ _
  · exact k.set8 _ _

theorem Keeps.callTo (k : Keeps s t) (target : Word) : Keeps s (callTo target t) := (k.push16 t.pc).setPc target

theorem Keeps.returnToCaller (k : Keeps s t) : Keeps s (returnToCaller t) := (k.setSp _).setPc _

theorem Keeps.when (k : Keeps s t) (cc : Cond) {act : State → State} (h : Keeps s (act t)) :
    Keeps s (when cc act t) := by
  unfold Machine.when
  split
  · exact h
  · exact k

end Extend

/-! ### The instructions by opcode byte -/

/-- What the instruction of the opcode byte `op` answers at `s`: after the fetch it writes registers and memory only, but for the
five that set engine state (R910, R1001 to R1004). -/
inductive Answers (op : Byte) (s : State) : Result → Prop
  | keeps {t : State} (n : Nat) (k : Keeps (advance n s) t) : Answers op s (.next t)
  | halt (h : op = 0x76) : Answers op s (.next (haltCore (advance 0 s)))
  | stop (h : op = 0x10) : Answers op s (.next { advance 1 s with mode := .stopped })
  | di (h : op = 0xF3) : Answers op s (.next { advance 0 s with ime := false, eiPending := false })
  | ei (h : op = 0xFB) : Answers op s (.next { advance 0 s with eiPending := true })
  | reti (h : op = 0xD9) : Answers op s (.next (returnFromInterrupt (advance 0 s)))

theorem Answers.of_exec {op : Byte} {s t : State} {i : Instr} (h : exec i s = .next t) (n : Nat) (k : Keeps (advance n s) t) :
    Answers op s (exec i s) :=
  h ▸ .keeps n k

theorem ld16Imm_answers (op : Byte) (rr : Reg16) (w : Word) (s : State) : Answers op s (exec (ld16Imm rr w) s) := by
  cases rr <;> exact .keeps 2 ((Keeps.refl _).set16 _ _)

theorem addHlOf_answers (op : Byte) (rr : Reg16) (s : State) : Answers op s (exec (addHlOf rr) s) := by
  cases rr <;> exact .keeps 0 (((Keeps.refl _).set16 .hl _).setFlags _ _ _ _)

theorem inc16Of_answers (op : Byte) (rr : Reg16) (s : State) : Answers op s (exec (inc16Of rr) s) := by
  cases rr <;> exact .keeps 0 ((Keeps.refl _).set16 _ _)

theorem dec16Of_answers (op : Byte) (rr : Reg16) (s : State) : Answers op s (exec (dec16Of rr) s) := by
  cases rr <;> exact .keeps 0 ((Keeps.refl _).set16 _ _)

theorem popOf_answers (op : Byte) (rr : Reg16) (s : State) : Answers op s (exec (popOf rr) s) := by
  cases rr <;> exact .keeps 0 (((Keeps.refl _).setSp _).set16 _ _)

theorem pushOf_answers (op : Byte) (rr : Reg16) (s : State) : Answers op s (exec (pushOf rr) s) := by
  cases rr <;> exact .keeps 0 ((Keeps.refl _).push16 _)

theorem indirectOfIndex_answers (op : Byte) (k : Nat) (s : State) : Answers op s (exec (indirectOfIndex k) s) := by
  unfold indirectOfIndex
  split
  · exact .keeps 0 ((Keeps.refl _).busWrite _ _)
  · exact .keeps 0 ((Keeps.refl _).loadA _)
  · exact .keeps 0 ((Keeps.refl _).busWrite _ _)
  · exact .keeps 0 ((Keeps.refl _).loadA _)
  · exact .keeps 0 (((Keeps.refl _).busWrite _ _).set16 .hl _)
  · exact .keeps 0 (((Keeps.refl _).loadA _).set16 .hl _)
  · exact .keeps 0 (((Keeps.refl _).busWrite _ _).set16 .hl _)
  · exact .keeps 0 (((Keeps.refl _).loadA _).set16 .hl _)

theorem accOfIndex_answers (op : Byte) (k : Nat) (s : State) : Answers op s (exec (accOfIndex k) s) := by
  unfold accOfIndex
  split
  case h_7 | h_8 => exact .keeps 0 ((Keeps.refl _).setFlags _ _ _ _)
  all_goals exact .keeps 0 (((Keeps.refl _).setA _).setFlags _ _ _ _)

theorem jrCond_answers (op : Byte) (cc : Cond) (e : Byte) (s : State) : Answers op s (exec (jrCond cc e) s) := by
  cases cc <;> exact .keeps 1 ((Keeps.refl _).when _ ((Keeps.refl _).setPc _))

theorem retCond_answers (op : Byte) (cc : Cond) (s : State) : Answers op s (exec (retCond cc) s) := by
  cases cc <;> exact .keeps 0 ((Keeps.refl _).when _ (Keeps.refl _).returnToCaller)

theorem jpCond_answers (op : Byte) (cc : Cond) (w : Word) (s : State) : Answers op s (exec (jpCond cc w) s) := by
  cases cc <;> exact .keeps 2 ((Keeps.refl _).when _ ((Keeps.refl _).setPc w))

theorem callCond_answers (op : Byte) (cc : Cond) (w : Word) (s : State) : Answers op s (exec (callCond cc w) s) := by
  cases cc <;> exact .keeps 2 ((Keeps.refl _).when _ ((Keeps.refl _).callTo w))

theorem rstOf_answers (op : Byte) (k : Nat) (s : State) : Answers op s (exec (rstOf k) s) := by
  unfold rstOf
  split <;> exact .keeps 0 ((Keeps.refl _).callTo _)

/-! ### The dispatch tables -/

/-- `Answers` for an entry of MAIN, whatever its immediate bytes. -/
def FormAnswers (op : Byte) (s : State) : Form → Prop
  | .u1 i => Answers op s (exec i s)
  | .u2 f => ∀ n, Answers op s (exec (f n) s)
  | .u3 f => ∀ w, Answers op s (exec (f w) s)

/-- An opcode byte from its fields x, y and z (R301). -/
theorem eq_ofNat_of_fields {op : Byte} {x y z : Nat} (hx : fieldX op = x) (hy : fieldY op = y) (hz : fieldZ op = z) :
    op = BitVec.ofNat 8 (64 * x + 8 * y + z) := by
  apply BitVec.eq_of_toNat_eq
  have := op.isLt
  unfold fieldX fieldY fieldZ at *
  rw [BitVec.toNat_ofNat]
  omega

/-- The field y is p and q together (R301). -/
theorem fieldY_eq_of_p_q {op : Byte} {p q : Nat} (hp : fieldP op = p) (hq : fieldQ op = q) : fieldY op = 2 * p + q := by
  unfold fieldP fieldQ fieldY at *
  omega

theorem r8OfIndex_eq_mHL {k : Nat} (h : r8OfIndex k = .mHL) : k = 6 := by
  unfold r8OfIndex at h
  split at h
  case h_7 => rfl
  all_goals cases h

/-- MAIN below 0x40: all but STOP keep the engine state. -/
theorem mainLow_answers {op : Byte} (hx : fieldX op = 0) (s : State) : FormAnswers op s (mainLow op) := by
  unfold mainLow
  split
  case h_1 hz =>
    split
    case h_1 => exact .keeps 0 (Keeps.refl _)
    case h_2 => exact fun w => .keeps 2 (((Keeps.refl _).busWrite _ _).busWrite _ _)
    case h_3 hy => exact fun _ => .stop (eq_ofNat_of_fields hx hy hz)
    case h_4 => exact fun e => .keeps 1 ((Keeps.refl _).setPc _)
    case h_5 => exact fun e => jrCond_answers op _ e s
  case h_2 =>
    split
    · exact fun w => ld16Imm_answers op _ w s
    · exact addHlOf_answers op _ s
  case h_3 => exact indirectOfIndex_answers op _ s
  case h_4 =>
    show Answers op s (exec (if _ then _ else _) s)
    split
    · exact inc16Of_answers op _ s
    · exact dec16Of_answers op _ s
  case h_5 => exact .of_exec (exec_inc8Of _ s) 0 ((Keeps.refl _).inc8 _)
  case h_6 => exact .of_exec (exec_dec8Of _ s) 0 ((Keeps.refl _).dec8 _)
  case h_7 => exact fun n => .of_exec (exec_ldImm8 _ n s) 1 ((Keeps.refl _).set8 _ n)
  case h_8 => exact accOfIndex_answers op _ s

/-- The load block: all but HALT, in the slot (HL),(HL), keep the engine state. -/
theorem ldBlock_answers {op : Byte} (hx : fieldX op = 1) (s : State) :
    Answers op s (exec (ldBlock (r8OfIndex (fieldY op)) (r8OfIndex (fieldZ op))) s) := by
  by_cases h : r8OfIndex (fieldY op) = .mHL ∧ r8OfIndex (fieldZ op) = .mHL
  · obtain ⟨hy, hz⟩ := h
    rw [hy, hz]
    exact .halt (eq_ofNat_of_fields hx (r8OfIndex_eq_mHL hy) (r8OfIndex_eq_mHL hz))
  · exact .of_exec (exec_ldBlock _ _ s h) 0 ((Keeps.refl _).set8 _ _)

/-- MAIN from 0xC0 on, but for the holes of R315: all but DI, EI and RETI keep the engine state. -/
theorem mainHigh_answers {op : Byte} (hx : fieldX op = 3) (hhole : op ∉ holes) (s : State) :
    FormAnswers op s (mainHigh op) := by
  have hole {y z : Nat} (hy : fieldY op = y) (hz : fieldZ op = z) : BitVec.ofNat 8 (64 * 3 + 8 * y + z) ∉ holes := by
    rwa [← eq_ofNat_of_fields hx hy hz]
  unfold mainHigh
  split
  case h_1 =>
    split
    case h_1 => exact fun n => .keeps 1 ((Keeps.refl _).busWrite _ _)
    case h_2 => exact fun e => .keeps 1 ((Keeps.refl _).spPlus .sp e)
    case h_3 => exact fun n => .keeps 1 ((Keeps.refl _).loadA _)
    case h_4 => exact fun e => .keeps 1 ((Keeps.refl _).spPlus .hl e)
    case h_5 => exact retCond_answers op _ s
  case h_2 hz =>
    split
    case isTrue => exact popOf_answers op _ s
    case isFalse hq =>
      replace hq : fieldQ op = 1 := by unfold fieldQ at *; omega
      split
      case h_1 => exact .keeps 0 (Keeps.refl _).returnToCaller
      case h_2 hp => exact .reti (eq_ofNat_of_fields hx (fieldY_eq_of_p_q hp hq) hz)
      case h_3 => exact .keeps 0 ((Keeps.refl _).setPc _)
      case h_4 => exact .keeps 0 ((Keeps.refl _).set16 .sp _)
  case h_3 =>
    split
    case h_1 => exact .keeps 0 ((Keeps.refl _).busWrite _ _)
    case h_2 => exact fun w => .keeps 2 ((Keeps.refl _).busWrite _ _)
    case h_3 => exact .keeps 0 ((Keeps.refl _).loadA _)
    case h_4 => exact fun w => .keeps 2 ((Keeps.refl _).loadA _)
    case h_5 => exact fun w => jpCond_answers op _ w s
  case h_4 hz =>
    split
    case h_1 => exact fun w => .keeps 2 ((Keeps.refl _).setPc _)
    case h_2 => exact .keeps 1 ((Keeps.refl _).cbEffect _)
    case h_3 hy | h_4 hy | h_5 hy | h_6 hy => exact absurd (by decide) (hole hy hz)
    case h_7 hy => exact .di (eq_ofNat_of_fields hx hy hz)
    case h_8 h0 h1 h2 h3 h4 h5 h6 =>
      have hy : fieldY op = 7 := by
        simp only [imp_false, fieldY] at *
        omega
      exact .ei (eq_ofNat_of_fields hx hy hz)
  case h_5 hz =>
    split
    case h_1 hy | h_2 hy | h_3 hy | h_4 hy => exact absurd (by decide) (hole hy hz)
    case h_5 => exact fun w => callCond_answers op _ w s
  case h_6 hz =>
    split
    case isTrue => exact pushOf_answers op _ s
    case isFalse hq =>
      replace hq : fieldQ op = 1 := by unfold fieldQ at *; omega
      split
      case h_1 => exact fun w => .keeps 2 ((Keeps.refl _).callTo w)
      case h_2 hp | h_3 hp => exact absurd (by decide) (hole (fieldY_eq_of_p_q hp hq) hz)
      case h_4 h0 h1 h2 =>
        have hp : fieldP op = 3 := by
          simp only [imp_false, fieldP] at *
          omega
        exact absurd (by decide) (hole (fieldY_eq_of_p_q hp hq) hz)
  case h_7 => exact fun n => .of_exec (exec_aluImm _ n s) 1 ((Keeps.refl _).aluA _ n)
  case h_8 => exact rstOf_answers op _ s

theorem mainForm_answers {op : Byte} (hhole : op ∉ holes) (s : State) : FormAnswers op s (mainForm op) := by
  unfold mainForm
  split
  case h_1 hx => exact mainLow_answers hx s
  case h_2 hx => exact ldBlock_answers hx s
  case h_3 => exact .of_exec (exec_aluBlock _ _ s) 0 ((Keeps.refl _).aluA _ _)
  case h_4 h0 h1 h2 =>
    have hx : fieldX op = 3 := by
      have := op.isLt
      simp only [imp_false, fieldX] at *
      omega
    exact mainHigh_answers hx hhole s

/-- Every instruction that the step can run: its first byte is the opcode byte, which is no hole (R311). -/
theorem exec_decodeBytes_answers {op : Byte} (hhole : op ∉ holes) (b1 b2 : Byte) (s : State) :
    Answers op s (exec (decodeBytes op b1 b2) s) := by
  have hform := mainForm_answers hhole s
  unfold decodeBytes
  split
  · exact .of_exec (exec_cbInstr b1 s) 1 ((Keeps.refl _).cbEffect b1)
  · split <;> rename_i heq <;> rw [heq] at hform
    · exact hform
    · exact hform b1
    · exact hform (cat b2 b1)

end Sys2Proof.Machine

/-!
PROOFS. What one step can do (30_encoding.md R311), said once, and what it keeps: ROM and the parameters, which steps change MODE,
the EI promotion, and the legality of the state.
-/

namespace Sys2Proof.Machine

/-! ### The step by cases -/

/-- The state at which an active step dispatches or fetches: a wake from HALTED is RUNNING by then (R311, R1120). -/
def awake (s : State) : State := { s with mode := .running }

@[simp] theorem awake_mode (s : State) : (awake s).mode = .running := rfl

theorem awake_of_running {s : State} (h : s.mode = .running) : awake s = s := by
  cases s
  cases h
  rfl

/-- The step dispatches or fetches: RUNNING, or HALTED with a pending interrupt (R311). -/
def Active (s : State) : Prop := s.mode = .running ∨ (s.mode = .halted ∧ pending s ≠ 0)

/-- The first byte of an opcode with a dispatch entry is no hole (R315, R1203). -/
theorem Admitted.not_hole {s : State} {entry : Entry} (h : Admitted s entry) : busRead s s.pc ∉ holes := by
  obtain ⟨he, -⟩ := h
  by_cases hp : busRead s s.pc = 0xCB
  · rw [hp]
    decide
  · intro hhole
    rw [(fetched_of_unprefixed hp).2.2, dispatchEntry, if_pos ⟨rfl, hhole⟩] at he
    cases he

/-- What an admitted instruction answers. -/
theorem Admitted.exec_answers {s : State} {entry : Entry} (h : Admitted s entry) :
    ∃ r, exec (fetchedInstr s) s = .next r ∧ Answers (busRead s s.pc) s (.next r) := by
  obtain ⟨r, hr⟩ := Machine.exec_answers (fetchedInstr s) s
  exact ⟨r, hr, hr ▸ exec_decodeBytes_answers h.not_hole _ _ s⟩

/-- What a fetch can do: it faults, or runs an admitted instruction (R311, R313). -/
theorem fetchExecute_cases (wake : Nat) (s : State) :
    (∃ code, fetchExecute wake s = .next (decodeFault code (fetchedCode s) (fetchedPrefixed s) s)) ∨
    ∃ entry r, Admitted s entry ∧ Answers (busRead s s.pc) s (.next r) ∧
      fetchExecute wake s = .next (retire wake entry.cost s r) := by
  cases he : fetchedEntry s with
  | none => exact .inl ⟨.unimplementedInstruction, by simp [fetchExecute, he]⟩
  | some entry =>
    by_cases hrun : entry.gk = true → s.cfg.gkAdmitted = true
    · have hadm : Admitted s entry := ⟨he, hrun⟩
      obtain ⟨r, hx, ha⟩ := hadm.exec_answers
      exact .inr ⟨entry, r, hadm, ha, fetchExecute_of_admitted wake hadm hx⟩
    · obtain ⟨hgk, hoff⟩ := Classical.not_imp.mp hrun
      exact .inl ⟨.notAdmitted, fetchExecute_of_not_admitted wake he hgk (eq_false_of_ne_true hoff)⟩

/-- What one step from `s` can end in (R311). -/
inductive StepCase (s : State) : State → Prop
  | stuck (h : s.mode = .faulted) : StepCase s s
  | idle (h : s.mode = .stopped ∨ (s.mode = .halted ∧ pending s = 0)) : StepCase s (charge 4 s)
  | dispatch (wake : Nat) (h : Active s) (hd : Dispatches s) :
      StepCase s (charge (wake + 20) (dispatchInterrupt (awake s)))
  | fault (code : FaultCode) (h : Active s) (hno : ¬Dispatches s) :
      StepCase s (decodeFault code (fetchedCode s) (fetchedPrefixed s) (awake s))
  | ran {wake : Nat} {entry : Entry} {r : State} (h : Active s) (hno : ¬Dispatches s) (hadm : Admitted (awake s) entry)
      (ha : Answers (busRead s s.pc) (awake s) (.next r)) : StepCase s (retire wake entry.cost (awake s) r)

theorem runStep_case {s : State} (h : Active s) (wake : Nat) : ∃ t, runStep wake (awake s) = .next t ∧ StepCase s t := by
  unfold runStep
  split
  · next hd => exact ⟨_, rfl, .dispatch wake h hd⟩
  · next hno =>
    rcases fetchExecute_cases wake (awake s) with ⟨code, hf⟩ | ⟨entry, r, hadm, ha, hr⟩
    · exact ⟨_, hf, .fault code h hno⟩
    · exact ⟨_, hr, .ran h hno hadm ha⟩

theorem step_answers_case (s : State) : ∃ t, step s = .next t ∧ StepCase s t := by
  unfold step engineStep
  split
  case h_1 hmode => exact ⟨_, rfl, .stuck hmode⟩
  case h_2 hmode => exact ⟨_, rfl, .idle (.inl hmode)⟩
  case h_3 hmode =>
    split
    case isTrue hp => exact ⟨_, rfl, .idle (.inr ⟨hmode, hp⟩)⟩
    case isFalse hp => exact runStep_case (.inr ⟨hmode, hp⟩) 4
  case h_4 hmode =>
    have hcase := runStep_case (.inl hmode) 0
    rwa [awake_of_running hmode] at hcase

theorem step_cases {s t : State} (h : step s = .next t) : StepCase s t := by
  obtain ⟨u, hu, hcase⟩ := step_answers_case s
  cases hu.symm.trans h
  exact hcase

/-! ### ROM and the parameters -/

theorem Keeps.rom_cfg {s t : State} (k : Keeps s t) : t.rom = s.rom ∧ t.cfg = s.cfg :=
  ⟨congrArg EngineView.rom k.engine, congrArg EngineView.cfg k.engine⟩

theorem Answers.rom_cfg {op : Byte} {s r : State} (h : Answers op s (.next r)) : r.rom = s.rom ∧ r.cfg = s.cfg := by
  cases h with
  | keeps n k => exact k.rom_cfg
  | _ => exact ⟨rfl, rfl⟩

theorem dispatchHighPush_keeps (s : State) :
    Keeps { s with ime := false, eiPending := false, haltBug := false } (dispatchHighPush s) :=
  ((Keeps.refl _).setSp _).busWrite _ _

/-- A dispatch clears IME, EI_PENDING and HALT_BUG, and apart from that writes registers and memory only (R1110). -/
theorem dispatchInterrupt_keeps (s : State) :
    Keeps { s with ime := false, eiPending := false, haltBug := false } (dispatchInterrupt s) := by
  have hpushed := ((dispatchHighPush_keeps s).setSp ((dispatchHighPush s).sp - 1)).busWrite
    ((dispatchHighPush s).sp - 1) (lo (dispatchReturn s))
  simp only [dispatchInterrupt]
  split <;> exact hpushed.frame rfl rfl rfl rfl

/-- The end of an instruction: EI_PENDING from before its fetch becomes IME, unless the instruction cleared it, and the cycles
are charged (R312, R1112). -/
theorem retire_eq (wake : Nat) (cost : Cost) (s t : State) :
    retire wake cost s t = { t with
      ime := t.ime || (s.eiPending && t.eiPending)
      eiPending := t.eiPending && !s.eiPending
      cycles := t.cycles + (wake + costFor cost (taken (fetchedPrefixed s) (fetchedCode s) s)) } := by
  unfold retire promoteEi
  cases s.eiPending <;> cases ht : t.eiPending <;> simp [charge, ht]

/-- Settles O12: a dispatch and every instruction keep both (`Keeps`, `Answers.rom_cfg`). -/
theorem romAndParametersNeverChange : Obligations.RomAndParametersNeverChange := by
  intro s t h
  cases step_cases h with
  | stuck _ => exact ⟨rfl, rfl⟩
  | idle _ => exact ⟨rfl, rfl⟩
  | dispatch _ _ _ => exact (dispatchInterrupt_keeps (awake s)).rom_cfg
  | fault _ _ _ => exact ⟨rfl, rfl⟩
  | ran _ _ _ ha =>
    rw [retire_eq]
    exact ha.rom_cfg

/-! ### MODE -/

theorem Active.not_faulted_not_stopped {s : State} (h : Active s) : s.mode ≠ .faulted ∧ s.mode ≠ .stopped := by
  rcases h with hm | ⟨hm, -⟩ <;> simp [hm]

theorem dispatchInterrupt_mode (s : State) : (dispatchInterrupt s).mode = s.mode :=
  congrArg EngineView.mode (dispatchInterrupt_keeps s).engine

/-- Of the instructions that run, only HALT and STOP set MODE (R120). -/
theorem Answers.mode {op : Byte} {s r : State} (h : Answers op s (.next r)) :
    r.mode = s.mode ∨ (r.mode = .halted ∧ op = 0x76) ∨ (r.mode = .stopped ∧ op = 0x10) := by
  cases h with
  | keeps n k => exact .inl (congrArg EngineView.mode k.engine)
  | halt hop => exact .inr (.inl ⟨rfl, hop⟩)
  | stop hop => exact .inr (.inr ⟨rfl, hop⟩)
  | _ => exact .inl rfl

/-- Settles O13: an active step ends in RUNNING but for HALT, STOP and a decode fault. -/
theorem onlyTheseChangeTheMode : Obligations.OnlyTheseChangeTheMode := by
  intro s t h
  cases step_cases h with
  | stuck hmode => simp [hmode]
  | idle hidle =>
    rcases hidle with hmode | ⟨hmode, hp⟩
    · simp [hmode, charge]
    · have hnone : s.ie &&& s.ifr &&& 0x1F#8 = 0#8 := hp
      simp [hmode, hnone]
  | dispatch wake hact _ =>
    obtain ⟨hf, hs⟩ := hact.not_faulted_not_stopped
    simp [hf, hs, dispatchInterrupt_mode]
  | fault code hact _ =>
    obtain ⟨hf, hs⟩ := hact.not_faulted_not_stopped
    exact ⟨fun hm => absurd hm hf, fun hm => absurd hm hs, nofun, nofun, fun _ _ => ⟨rfl, rfl⟩⟩
  | ran hact _ _ ha =>
    obtain ⟨hf, hs⟩ := hact.not_faulted_not_stopped
    rcases ha.mode with hm | ⟨hm, hop⟩ | ⟨hm, hop⟩
    · simp [hf, hs, hm]
    · simp [hf, hs, hm, hop]
    · simp [hf, hs, hm, hop]

/-! ### The EI promotion -/

/-- IME and EI_PENDING after the instructions that run: only DI, EI and RETI set them (R121, R122). -/
theorem Answers.ime_eiPending {op : Byte} {s r : State} (h : Answers op s (.next r)) :
    (r.ime = s.ime ∧ r.eiPending = s.eiPending) ∨ (op = 0xF3 ∧ r.ime = false ∧ r.eiPending = false) ∨
      (op = 0xFB ∧ r.ime = s.ime ∧ r.eiPending = true) ∨ (op = 0xD9 ∧ r.ime = true ∧ r.eiPending = false) := by
  cases h with
  | keeps n k => exact .inl ⟨congrArg EngineView.ime k.engine, congrArg EngineView.eiPending k.engine⟩
  | halt _ => exact .inl ⟨rfl, rfl⟩
  | stop _ => exact .inl ⟨rfl, rfl⟩
  | di hop => exact .inr (.inl ⟨hop, rfl, rfl⟩)
  | ei hop => exact .inr (.inr (.inl ⟨hop, rfl, rfl⟩))
  | reti hop => exact .inr (.inr (.inr ⟨hop, rfl, rfl⟩))

theorem exec_fetchedInstr_of_di {s : State} (h : busRead s s.pc = 0xF3) :
    exec (fetchedInstr s) s = .next { advance 0 s with ime := false, eiPending := false } := by
  rw [fetchedInstr, h]
  rfl

theorem exec_fetchedInstr_of_ei {s : State} (h : busRead s s.pc = 0xFB) :
    exec (fetchedInstr s) s = .next { advance 0 s with eiPending := true } := by
  rw [fetchedInstr, h]
  rfl

theorem exec_fetchedInstr_of_reti {s : State} (h : busRead s s.pc = 0xD9) :
    exec (fetchedInstr s) s = .next (returnFromInterrupt (advance 0 s)) := by
  rw [fetchedInstr, h]
  rfl

/-- The step of an admitted instruction, as `retire_eq` writes it out. -/
theorem step_of_admitted {s t : State} {entry : Entry} (hf : Fetches s) (hadm : Admitted s entry) (h : step s = .next t) :
    ∃ r, exec (fetchedInstr s) s = .next r ∧ Answers (busRead s s.pc) s (.next r) ∧ t = retire 0 entry.cost s r := by
  obtain ⟨r, hx, ha⟩ := hadm.exec_answers
  have hstep := (step_of_fetches hf).trans (fetchExecute_of_admitted 0 hadm hx)
  exact ⟨r, hx, ha, Host.Outcome.next.inj (h.symm.trans hstep)⟩

/-- Where no EI is in force, a step that changes neither IME nor what is pending leaves nothing to dispatch. -/
theorem Fetches.of_same_pending {s t : State} (h : Fetches s) (harmed : s.eiPending = false) (hmode : t.mode = .running)
    (hime : t.ime = s.ime) (hpending : pending t = pending s) : Fetches t := by
  obtain ⟨-, hno⟩ := h
  refine ⟨hmode, fun ⟨hi, hp, _⟩ => hno ⟨hime ▸ hi, hpending ▸ hp, ?_⟩⟩
  simp [harmed]

/-- What an EI leaves when none was in force before it: IME as it was, EI_PENDING, and a state that fetches (R1004). -/
theorem fetches_of_retire_ei {s t : State} (entry : Entry) (hf : Fetches s) (harmed : s.eiPending = false)
    (ht : t = retire 0 entry.cost s { advance 0 s with eiPending := true }) :
    t.ime = s.ime ∧ t.eiPending = true ∧ Fetches t ∧
      (s.cfg.eiHoldsDispatch = true → ∀ ie ifr, Fetches { t with ie := ie, ifr := ifr }) := by
  rw [retire_eq] at ht
  have hime : t.ime = s.ime := by simp [ht, harmed]
  have hei : t.eiPending = true := by simp [ht, harmed]
  have hmode : t.mode = .running := by simp [ht, hf.1]
  have hcfg : t.cfg = s.cfg := by simp [ht]
  refine ⟨hime, hei, hf.of_same_pending harmed hmode hime (by rw [ht]; rfl), fun hhold ie ifr => ⟨hmode, ?_⟩⟩
  rintro ⟨-, -, hfree⟩
  exact hfree ⟨hcfg ▸ hhold, hei⟩

/-- Settles O21: what `Answers.ime_eiPending` says of the instruction, and the promotion of `retire_eq` after it. -/
theorem eiTakesEffectAfterTheNextInstruction : Obligations.EiTakesEffectAfterTheNextInstruction := by
  intro s t entry hf hadm h
  obtain ⟨r, hx, ha, ht⟩ := step_of_admitted hf hadm h
  refine ⟨fun hop => ?_, fun hop => ?_, fun harmed hdi => ?_, fun harmed hop => ?_, fun harmed hdi hreti hei => ?_⟩
  · cases hx.symm.trans (exec_fetchedInstr_of_di hop)
    simp [ht, retire_eq]
  · cases hx.symm.trans (exec_fetchedInstr_of_reti hop)
    simp [ht, retire_eq]
  · rcases ha.ime_eiPending with ⟨-, he⟩ | ⟨hop, -⟩ | ⟨-, -, he⟩ | ⟨-, hi, he⟩
    · simp [ht, retire_eq, harmed, he]
    · exact absurd hop hdi
    · simp [ht, retire_eq, harmed, he]
    · simp [ht, retire_eq, hi, he]
  · cases hx.symm.trans (exec_fetchedInstr_of_ei hop)
    exact fetches_of_retire_ei entry hf harmed ht
  · rcases ha.ime_eiPending with ⟨hi, he⟩ | ⟨hop, -⟩ | ⟨hop, -⟩ | ⟨hop, -⟩
    · simp [ht, retire_eq, harmed, hi, he]
    · exact absurd hop hdi
    · exact absurd hop hei
    · exact absurd hop hreti

/-! ### Legality -/

/-- A legal state in which the step dispatches or fetches. HALT_BUG may still be set there, after a wake from HALTED. -/
structure Ready (s : State) : Prop where
  running : s.mode = .running
  tidy : Tidy s
  romWf : s.rom.wf
  romKeys : ∀ x ∈ s.rom, x.1 < s.cfg.romCapacity
  noFault : s.faultInfo = none
  gkOff : s.cfg.gkAdmitted = false → s.ime = false ∧ s.eiPending = false ∧ s.haltBug = false

theorem State.Inv.ready {s : State} (h : s.Inv) (hact : Active s) : Ready (awake s) where
  running := rfl
  tidy := ⟨h.fLow, h.ramWf, h.ramKeys⟩
  romWf := h.romWf
  romKeys := h.romKeys
  noFault := Option.not_isSome_iff_eq_none.mp (mt h.faultMode.mpr hact.not_faulted_not_stopped.1)
  gkOff := h.gkOff

theorem State.Inv.charge {s : State} (h : s.Inv) (n : Nat) : (charge n s).Inv :=
  ⟨h.fLow, h.romWf, h.ramWf, h.romKeys, h.ramKeys, h.faultMode, h.haltBugMode, h.gkOff⟩

/-- What is left to say of a state that a dispatch or an instruction reaches from a ready one. -/
theorem Ready.inv_of {s t : State} (hs : Ready s) (hrom : t.rom = s.rom) (hcfg : t.cfg = s.cfg)
    (hfault : t.faultInfo = s.faultInfo) (hmode : t.mode ≠ .faulted) (ht : Tidy t)
    (hbug : t.haltBug = true → t.mode = .halted)
    (hgk : s.cfg.gkAdmitted = false → t.ime = false ∧ t.eiPending = false ∧ t.haltBug = false) : t.Inv where
  fLow := ht.fLow
  romWf := hrom ▸ hs.romWf
  ramWf := ht.ramWf
  romKeys := by rw [hrom, hcfg]; exact hs.romKeys
  ramKeys := ht.ramKeys
  faultMode := by simp [hmode, hfault, hs.noFault]
  haltBugMode hb := .inl (hbug hb)
  gkOff := by rwa [hcfg]

theorem Ready.dispatchInterrupt_inv {s : State} (hs : Ready s) : (dispatchInterrupt s).Inv := by
  have k := dispatchInterrupt_keeps s
  have hmode : (dispatchInterrupt s).mode ≠ .faulted := by simp [dispatchInterrupt_mode, hs.running]
  have hbug : (dispatchInterrupt s).haltBug = false := k.haltBug
  refine hs.inv_of k.rom_cfg.1 k.rom_cfg.2 (congrArg EngineView.faultInfo k.engine) hmode
    (k.tidy ⟨hs.tidy.fLow, hs.tidy.ramWf, hs.tidy.ramKeys⟩) (by simp [hbug]) fun _ => ?_
  exact ⟨congrArg EngineView.ime k.engine, congrArg EngineView.eiPending k.engine, hbug⟩

theorem Ready.decodeFault_inv {s : State} (hs : Ready s) (code : FaultCode) (op : Byte) (prefixed : Bool) :
    (decodeFault code op prefixed s).Inv :=
  ⟨hs.tidy.fLow, hs.romWf, hs.tidy.ramWf, hs.romKeys, hs.tidy.ramKeys, iff_of_true rfl rfl, fun _ => .inr rfl, hs.gkOff⟩

theorem Answers.faultInfo {op : Byte} {s r : State} (h : Answers op s (.next r)) : r.faultInfo = s.faultInfo := by
  cases h with
  | keeps n k => exact congrArg EngineView.faultInfo k.engine
  | _ => rfl

theorem Answers.tidy {op : Byte} {s r : State} (h : Answers op s (.next r)) (hs : Tidy s) : Tidy r := by
  cases h with
  | keeps n k => exact k.tidy ⟨hs.fLow, hs.ramWf, hs.ramKeys⟩
  | _ => exact ⟨hs.fLow, hs.ramWf, hs.ramKeys⟩

/-- The fetch clears HALT_BUG, and HALT alone sets it again, with GK_ADMITTED only (R123, R310, R1001). -/
theorem Answers.haltBug {op : Byte} {s r : State} (h : Answers op s (.next r)) (hbug : r.haltBug = true) :
    r.mode = .halted ∧ s.cfg.gkAdmitted = true := by
  cases h with
  | keeps n k =>
    rw [k.haltBug] at hbug
    cases hbug
  | halt _ =>
    simp only [haltCore_haltBug, advance_haltBug, advance_cfg, Bool.false_or, Bool.and_eq_true] at hbug
    exact ⟨rfl, hbug.1.1⟩
  | _ => cases hbug

/-- An instruction marked gk runs with GK_ADMITTED only (R12, R1102). -/
theorem Admitted.gkAdmitted {s : State} {entry : Entry} (h : Admitted s entry) (hne : busRead s s.pc ≠ 0xCB)
    (hmark : gkMarked false (busRead s s.pc) = true) : s.cfg.gkAdmitted = true := by
  obtain ⟨he, hgk⟩ := h
  rw [(fetched_of_unprefixed hne).2.2] at he
  obtain ⟨entry', he', hmark'⟩ := dispatchEntry_gk (cfg := s.cfg) (prefixed := false) (code := busRead s s.pc) (by simp [he])
  cases he.symm.trans he'
  exact hgk (hmark'.trans hmark)

/-- Without GK_ADMITTED neither EI nor RETI runs, so IME and EI_PENDING stay clear (91_not_in_source.md N28). -/
theorem Answers.gkOff {s r : State} {entry : Entry} (h : Answers (busRead s s.pc) s (.next r)) (hadm : Admitted s entry)
    (hoff : s.cfg.gkAdmitted = false) (hs : s.ime = false ∧ s.eiPending = false) : r.ime = false ∧ r.eiPending = false := by
  have hnot {op : Byte} (hop : busRead s s.pc = op) (hne : op ≠ 0xCB) : gkMarked false op ≠ true := by
    subst hop
    exact fun hmark => by simp [hadm.gkAdmitted hne hmark] at hoff
  rcases h.ime_eiPending with ⟨hi, he⟩ | ⟨-, hi, he⟩ | ⟨hop, -⟩ | ⟨hop, -⟩
  · rwa [hi, he]
  · exact ⟨hi, he⟩
  · exact absurd rfl (hnot hop (by decide))
  · exact absurd rfl (hnot hop (by decide))

theorem Ready.answers_inv {s r : State} {entry : Entry} (hs : Ready s) (hadm : Admitted s entry)
    (h : Answers (busRead s s.pc) s (.next r)) : r.Inv := by
  obtain ⟨hrom, hcfg⟩ := h.rom_cfg
  have hmode : r.mode ≠ .faulted := by
    rcases h.mode with hm | ⟨hm, -⟩ | ⟨hm, -⟩ <;> simp [hm, hs.running]
  refine hs.inv_of hrom hcfg h.faultInfo hmode (h.tidy hs.tidy) (fun hb => (h.haltBug hb).1) fun hoff => ?_
  obtain ⟨hime, hei, -⟩ := hs.gkOff hoff
  obtain ⟨hime', hei'⟩ := h.gkOff hadm hoff ⟨hime, hei⟩
  refine ⟨hime', hei', eq_false_of_ne_true fun hb => ?_⟩
  simp [(h.haltBug hb).2] at hoff

/-- The EI promotion needs EI_PENDING, which is clear without GK_ADMITTED. -/
theorem State.Inv.retire {t : State} (h : t.Inv) (wake : Nat) (cost : Cost) (s : State) : (retire wake cost s t).Inv := by
  rw [retire_eq]
  refine ⟨h.fLow, h.romWf, h.ramWf, h.romKeys, h.ramKeys, h.faultMode, h.haltBugMode, fun hoff => ?_⟩
  obtain ⟨hime, hei, hbug⟩ := h.gkOff hoff
  simp [hime, hei, hbug]

/-- Settles O8: a dispatch, a decode fault and an instruction each leave a ready state legal. -/
theorem everyStepKeepsLegality : Obligations.EveryStepKeepsLegality := by
  intro s t hs h
  cases step_cases h with
  | stuck _ => exact hs
  | idle _ => exact hs.charge 4
  | dispatch wake hact _ => exact (hs.ready hact).dispatchInterrupt_inv.charge _
  | fault code hact _ => exact (hs.ready hact).decodeFault_inv code _ _
  | ran hact _ hadm ha => exact ((hs.ready hact).answers_inv hadm ha).retire _ _ _

end Sys2Proof.Machine

/-!
PROOFS. The address bus as the host reads and writes it (20_memory.md R203 to R211), and that no access and no instruction stops
a step (R222). Which byte an address names is said by range once; each region's statement is then arithmetic on addresses.
-/

namespace Sys2Proof.Machine

/-! ### No step stops -/

/-- Settles O11: each case of the step is a next state (`step_answers_case`). -/
theorem noStepStops : Obligations.NoStepStops := by
  intro s
  obtain ⟨t, ht, -⟩ := step_answers_case s
  exact ⟨t, ht⟩

/-! ### Addresses by range -/

theorem region_eq_echo_iff (addr : Word) : region addr = .echo ↔ 0xE000 ≤ addr.toNat ∧ addr.toNat ≤ 0xFDFF := by
  rcases region_range addr with ⟨hreg, hr⟩ | ⟨hreg, hr⟩ | ⟨hreg, hr⟩ | ⟨hreg, hr⟩ | ⟨hreg, hr⟩ | ⟨hreg, hr⟩ | ⟨hreg, hr⟩ |
    ⟨hreg, hr⟩ | ⟨hreg, hr⟩ | ⟨hreg, hr⟩ | ⟨hreg, hr⟩ <;> simp [hreg] <;> omega

theorem region_of_unusable {addr : Word} (hlow : 0xFEA0 ≤ addr.toNat) (hhigh : addr.toNat ≤ 0xFEFF) :
    region addr = .unusable := by
  simp (disch := omega) only [region, if_neg, if_pos]

/-- ECHO names the byte 0x2000 below it, every other address its own (R208). -/
theorem ramKey_eq (addr : Word) :
    ramKey addr = if 0xE000 ≤ addr.toNat ∧ addr.toNat ≤ 0xFDFF then addr.toNat - 0x2000 else addr.toNat := by
  simp only [ramKey, region_eq_echo_iff]

theorem writable_iff_range (addr : Word) :
    Writable addr ↔ 0x8000 ≤ addr.toNat ∧ ¬(0xFEA0 ≤ addr.toNat ∧ addr.toNat ≤ 0xFEFF) := by
  rw [writable_iff, ramKey_eq]
  split <;> omega

/-- Outside WRAM and ECHO no other address names the byte. -/
theorem eq_of_ramKey_eq {addr other : Word} (hr : addr.toNat < 0xC000 ∨ 0xFE00 ≤ addr.toNat)
    (hkey : ramKey other = ramKey addr) : other = addr := by
  apply BitVec.eq_of_toNat_eq
  rw [ramKey_eq, ramKey_eq] at hkey
  split at hkey <;> split at hkey <;> omega

/-- The ECHO address of a byte of WRAM (R208). -/
theorem ramKey_mirror {addr : Word} (hlow : 0xC000 ≤ addr.toNat) (hhigh : addr.toNat ≤ 0xDDFF) :
    ramKey (addr + 0x2000) = ramKey addr := by
  have hmirror : (addr + 0x2000).toNat = addr.toNat + 0x2000 :=
    BitVec.toNat_add_of_lt (show addr.toNat + 0x2000 < 2 ^ 16 by omega)
  rw [ramKey_eq, ramKey_eq, hmirror, if_pos (by omega), if_neg (by omega)]
  omega

/-! ### Addresses of one byte -/

theorem Writable.of_ramKey_eq {addr other : Word} (hw : Writable addr) (hkey : ramKey other = ramKey addr) :
    Writable other := by
  rw [writable_iff, hkey]
  exact (writable_iff addr).mp hw

theorem busRead_eq_of_ramKey_eq (s : State) {addr other : Word} (hw : Writable addr) (hkey : ramKey other = ramKey addr) :
    busRead s other = busRead s addr := by
  rw [busRead_storage s (hw.of_ramKey_eq hkey), busRead_storage s hw, hkey]

theorem busWrite_eq_of_ramKey_eq (s : State) {addr other : Word} (v : Byte) (hw : Writable addr)
    (hkey : ramKey other = ramKey addr) : busWrite s other v = busWrite s addr v := by
  rw [busWrite_storage s v (hw.of_ramKey_eq hkey), busWrite_storage s v hw, hkey]

/-- A write to storage never calls the mapper hook, so it is seen at the byte itself only. -/
theorem ramKey_eq_of_reachedBy {cfg : Config} {target addr : Word} (hw : Writable target)
    (h : reachedBy cfg target addr) : ramKey addr = ramKey target := by
  rcases h with ⟨-, hkey⟩ | ⟨-, hwindow, -⟩
  · exact hkey
  · have hstorage := ((writable_iff_range target).mp hw).1
    omega

/-! ### The regions -/

/-- Settles O22: an address there names a byte that no other address names (`eq_of_ramKey_eq`). -/
theorem storageRegions : Obligations.StorageRegions := by
  intro s addr other v hram
  refine ⟨fun hr => ?_, fun ⟨hlow, hhigh⟩ => ?_⟩
  · have hw : Writable addr := (writable_iff_range addr).mpr (by omega)
    refine ⟨busRead_busWrite_same hram v hw rfl, fun hne => busRead_busWrite_other s v fun hreach => hne ?_⟩
    exact eq_of_ramKey_eq (by omega) (ramKey_eq_of_reachedBy hw hreach)
  · have hreg := region_of_unusable hlow hhigh
    simp [hostRead, hostWrite, busRead, busWrite, hreg]

/-- Settles O23: an ECHO address names the byte of the WRAM address below it (`ramKey_mirror`). -/
theorem echoMirrorsWram : Obligations.EchoMirrorsWram := by
  intro s addr v hram hlow hhigh
  have hw : Writable addr := (writable_iff_range addr).mpr (by omega)
  refine ⟨busRead_busWrite_same hram v hw rfl, fun hhalf => ?_⟩
  have hkey := ramKey_mirror hlow hhalf
  exact ⟨busRead_eq_of_ramKey_eq s hw hkey, busRead_busWrite_same hram v hw hkey, busWrite_eq_of_ramKey_eq s v hw hkey⟩

/-- Settles O24: ROM is no storage, so a write there is nothing or the mapper hook (`busWrite_elsewhere`). -/
theorem romIgnoresWrites : Obligations.RomIgnoresWrites := by
  intro s addr v hrom
  have hw : ¬Writable addr := fun hw => by
    have hstorage := ((writable_iff_range addr).mp hw).1
    omega
  simp only [hostWrite, busWrite_elsewhere s v hw]
  refine ⟨fun hout => if_neg (by omega), fun hin => if_pos hin, fun hmap => ?_⟩
  simp [hmap]

theorem busRead_rom0 (s : State) {addr : Word} (h : addr.toNat ≤ 0x3FFF) : busRead s addr = s.rom.read addr.toNat := by
  have hreg : region addr = .rom0 := if_pos h
  rw [busRead, hreg]

theorem busRead_romx (s : State) {addr : Word} (hlow : 0x4000 ≤ addr.toNat) (hhigh : addr.toNat ≤ 0x7FFF) :
    busRead s addr = s.rom.read (romxOffset s addr) := by
  have hreg : region addr = .romx := by simp (disch := omega) only [region, if_neg, if_pos]
  rw [busRead, hreg]

/-- Settles O25: the offset that the ROMX window shows is `romxOffset`, with the bank 1 under NO_MAPPER. -/
theorem romWindowShowsTheBank : Obligations.RomWindowShowsTheBank := by
  intro s addr
  refine ⟨busRead_rom0 s, fun hlow hhigh => ⟨busRead_romx s hlow hhigh, fun hmap => ?_⟩⟩
  rw [hmap, mapperBank_noMapper]

end Sys2Proof.Machine

/-!
PROOFS. Encoding and decoding (30_encoding.md R300 to R317): the decoder reads the fields of the opcode and the encoder is the
opcode maps, so the tables are compared row by row, once from the opcodes and once from the instructions.
-/

namespace Sys2Proof
open Machine (cat_hi_lo eq_ofNat_of_fields lt_eight)

/-! ### The formats of a dispatch entry -/

/-- The instruction of a dispatch entry for an immediate byte and an immediate word; a shorter format ignores them. -/
def Form.instr (n : Byte) (w : Word) : Form → Instr
  | .u1 i => i
  | .u2 f => f n
  | .u3 f => f w

/-- The bytes of that instruction behind the opcode `op` (the formats U1, U2 and U3 of R300). -/
def Form.bytes (op n : Byte) (w : Word) : Form → List Byte
  | .u1 _ => [op]
  | .u2 _ => [op, n]
  | .u3 _ => [op, lo w, hi w]

/-! ### The opcodes by their fields -/

/-- Every opcode is its fields x, y and z (R301). -/
theorem exists_fields (op : Byte) : ∃ x < 4, ∃ y < 8, ∃ z < 8, op = BitVec.ofNat 8 (64 * x + 8 * y + z) := by
  have hlt := op.isLt
  refine ⟨fieldX op, ?_, fieldY op, ?_, fieldZ op, ?_, eq_ofNat_of_fields rfl rfl rfl⟩ <;>
    simp only [fieldX, fieldY, fieldZ] <;> omega

/-- The fields of an opcode written by its fields (R301). -/
theorem fields_ofNat {n x y z : Nat} (hx : x < 4) (hy : y < 8) (hz : z < 8) (hn : n = 64 * x + 8 * y + z) :
    fieldX (BitVec.ofNat 8 n) = x ∧ fieldY (BitVec.ofNat 8 n) = y ∧ fieldZ (BitVec.ofNat 8 n) = z := by
  simp only [fieldX, fieldY, fieldZ, BitVec.toNat_ofNat]
  omega

/-- A table written out as the values of a function at 0 to `n - 1`, read back. -/
theorem lt_and_eq_of_getElem?_map_range {α : Type} {f : Nat → α} {n k : Nat} {a : α}
    (h : ((List.range n).map f)[k]? = some a) : k < n ∧ f k = a := by
  obtain ⟨hk, rfl⟩ := List.getElem?_eq_some_iff.mp h
  exact ⟨by simpa using hk, by simp⟩

/-- The prefix byte has the fields x = 3 and z = 3 (R301). -/
theorem ne_prefix_of_fields {op : Byte} (h : fieldX op ≠ 3 ∨ fieldZ op ≠ 3) : op ≠ 0xCB := by
  rintro rfl
  exact absurd h (by decide)

theorem decodeBytes_ldBlock {op : Byte} (hx : fieldX op = 1) (b1 b2 : Byte) :
    decodeBytes op b1 b2 = ldBlock (r8OfIndex (fieldY op)) (r8OfIndex (fieldZ op)) := by
  have hop := ne_prefix_of_fields (op := op) (.inl (by simp [hx]))
  simp only [decodeBytes, if_neg hop, mainForm, hx]

theorem decodeBytes_aluBlock {op : Byte} (hx : fieldX op = 2) (b1 b2 : Byte) :
    decodeBytes op b1 b2 = aluBlock (aluOfIndex (fieldY op)) (r8OfIndex (fieldZ op)) := by
  have hop := ne_prefix_of_fields (op := op) (.inl (by simp [hx]))
  simp only [decodeBytes, if_neg hop, mainForm, hx]

theorem decodeBytes_aluImm {op : Byte} (hx : fieldX op = 3) (hz : fieldZ op = 6) (b1 b2 : Byte) :
    decodeBytes op b1 b2 = aluImm (aluOfIndex (fieldY op)) b1 := by
  have hop := ne_prefix_of_fields (op := op) (.inr (by simp [hz]))
  simp only [decodeBytes, if_neg hop, mainForm, hx, mainHigh, hz]

/-- Settles O3: the two opcodes have the fields 2, ooo, sss and 3, ooo, 6 (`fields_ofNat`). -/
theorem aluOpcodesByArithmetic : Obligations.AluOpcodesByArithmetic := by
  intro ooo sss op r b1 b2 hop hr
  obtain ⟨hy, rfl⟩ := lt_and_eq_of_getElem?_map_range (f := aluOfIndex) (n := 8) hop
  obtain ⟨hz, rfl⟩ := lt_and_eq_of_getElem?_map_range (f := r8OfIndex) (n := 8) hr
  obtain ⟨hx2, hy2, hz2⟩ := fields_ofNat (n := 0x80 + 8 * ooo + sss) (x := 2) (by decide) hy hz rfl
  obtain ⟨hx3, hy3, hz3⟩ := fields_ofNat (n := 0xC6 + 8 * ooo) (x := 3) (z := 6) (by decide) hy (by decide) (by omega)
  constructor
  · rw [decodeBytes_aluBlock hx2, hy2, hz2]
  · rw [decodeBytes_aluImm hx3 hz3, hy3]

/-- Settles O4: in each block the fields of the opcode are the two table indices (`fields_ofNat`). -/
theorem loadBlockAndPrefixedTable : Obligations.LoadBlockAndPrefixedTable := by
  intro y z dst src op b2 hdst hsrc hop
  obtain ⟨hy, rfl⟩ := lt_and_eq_of_getElem?_map_range (f := r8OfIndex) (n := 8) hdst
  obtain ⟨hz, rfl⟩ := lt_and_eq_of_getElem?_map_range (f := r8OfIndex) (n := 8) hsrc
  obtain ⟨-, rfl⟩ := lt_and_eq_of_getElem?_map_range (f := rotOfIndex) (n := 8) hop
  obtain ⟨hx0, hy0, hz0⟩ := fields_ofNat (n := 8 * y + z) (x := 0) (by decide) hy hz (by omega)
  obtain ⟨hx1, hy1, hz1⟩ := fields_ofNat (n := 0x40 + 8 * y + z) (x := 1) (by decide) hy hz rfl
  obtain ⟨hx2, hy2, hz2⟩ := fields_ofNat (n := 0x80 + 8 * y + z) (x := 2) (by decide) hy hz rfl
  obtain ⟨hx3, hy3, hz3⟩ := fields_ofNat (n := 0xC0 + 8 * y + z) (x := 3) (by decide) hy hz rfl
  refine ⟨?_, ?_, ?_, ?_, ?_⟩
  · rw [decodeBytes_ldBlock hx1, hy1, hz1]
    split
    · next h =>
      obtain ⟨rfl, rfl⟩ := h
      rfl
    · rfl
  · simp [decodeBytes, cbInstr, hx0, hy0, hz0]
  · simp [decodeBytes, cbInstr, hx1, hy1, hz1]
  · simp [decodeBytes, cbInstr, hx2, hy2, hz2]
  · simp [decodeBytes, cbInstr, hx3, hy3, hz3]

/-- Settles O5: each word is a row of MAIN or CB. -/
theorem sampleWordsDecode : Obligations.SampleWordsDecode :=
  ⟨rfl, rfl, rfl, rfl, rfl, rfl, rfl, rfl, rfl, rfl, rfl⟩

/-! ### The opcode maps -/

/-- MAIN against the map R309: each of the 256 rows encodes as its opcode and its immediate bytes. -/
theorem encode_mainForm_instr (op n : Byte) (w : Word) :
    encode ((mainForm op).instr n w) = (mainForm op).bytes op n w := by
  obtain ⟨x, hx, y, hy, z, hz, rfl⟩ := exists_fields op
  have hx4 : x = 0 ∨ x = 1 ∨ x = 2 ∨ x = 3 := by omega
  rcases hx4 with rfl | rfl | rfl | rfl <;>
  rcases lt_eight hy with rfl | rfl | rfl | rfl | rfl | rfl | rfl | rfl <;>
  rcases lt_eight hz with rfl | rfl | rfl | rfl | rfl | rfl | rfl | rfl <;> rfl

/-- CB against the map R314: each of the 256 rows encodes as the prefix and its byte. -/
theorem encode_cbInstr : ∀ code : Byte, encode (cbInstr code) = [0xCB, code] := by decide

/-! ### Byte lists -/

/-- The fetch of three bytes: a shorter instruction ignores the bytes after it (R311). -/
theorem decode_three (b0 b1 b2 : Byte) :
    decode [b0, b1, b2] = .ok (decodeBytes b0 b1 b2, [b0, b1, b2].drop (lengthOfFirst b0)) := by
  by_cases h : b0 = 0xCB
  · subst h
    rfl
  · simp only [decode, decodeBytes, lengthOfFirst, if_neg h]
    cases mainForm b0 <;> rfl

theorem decode_of_u3 {op : Byte} {f : Word → Instr} (hf : mainForm op = .u3 f) (w : Word) (rest : List Byte) :
    decode ([op, lo w, hi w] ++ rest) = .ok (f w, rest) := by
  have hop : op ≠ 0xCB := by
    rintro rfl
    cases hf
  simp only [List.cons_append, List.nil_append, decode, if_neg hop, hf, cat_hi_lo]

/-- What a byte list that decodes begins with: a row of MAIN, a row of CB, or at its very end the prefix alone (log 11). -/
theorem decode_ok {bytes rest : List Byte} {i : Instr} (h : decode bytes = .ok (i, rest)) :
    (∃ op n w, i = (mainForm op).instr n w ∧ bytes = (mainForm op).bytes op n w ++ rest) ∨
      (∃ code, i = cbInstr code ∧ bytes = 0xCB :: code :: rest) ∨ (i = .prefix_CB ∧ bytes = [0xCB] ∧ rest = []) := by
  unfold decode at h
  split at h
  case h_1 => cases h
  case h_2 op tail =>
    split at h
    case isTrue hop =>
      subst hop
      split at h <;> cases h
      case h_1 => exact .inr (.inr ⟨rfl, rfl, rfl⟩)
      case h_2 code => exact .inr (.inl ⟨code, rfl, rfl⟩)
    case isFalse =>
      refine .inl ⟨op, ?_⟩
      split at h <;> cases h
      case h_1 hf => exact ⟨0, 0, by simp [hf, Form.instr, Form.bytes]⟩
      case h_2 n hf => exact ⟨n, 0, by simp [hf, Form.instr, Form.bytes]⟩
      case h_3 low high hf => exact ⟨0, cat high low, by simp [hf, Form.instr, Form.bytes]⟩

/-- Settles O2: each row encodes as its own bytes (`encode_mainForm_instr`, `encode_cbInstr`). -/
theorem decodeThenEncode : Obligations.DecodeThenEncode := by
  intro bytes rest i h
  rcases decode_ok h with ⟨op, n, w, rfl, rfl⟩ | ⟨code, rfl, rfl⟩ | ⟨rfl, rfl, rfl⟩
  · rw [encode_mainForm_instr]
  · rw [encode_cbInstr]
    rfl
  · rfl

/-- Settles O1, constructor by constructor: the two bytes of a word operand are put together again (`decode_of_u3`), and every
other row is read off the opcode map. -/
theorem encodeThenDecode : Obligations.EncodeThenDecode := by
  intro i rest h
  cases i
  case prefix_CB => exact absurd rfl h
  case ld_BC_d16 w | ld_DE_d16 w | ld_HL_d16 w | ld_SP_d16 w | ld_ma16_SP w | ld_ma16_A w | ld_A_ma16 w | jp_a16 w |
      jp_NZ_a16 w | jp_Z_a16 w | jp_NC_a16 w | jp_C_a16 w | call_a16 w | call_NZ_a16 w | call_Z_a16 w | call_NC_a16 w |
      call_C_a16 w =>
    exact decode_of_u3 rfl w rest
  all_goals rfl

end Sys2Proof

/-!
PROOFS. The step at the opcode it fetches (30_encoding.md R310 to R315): it runs the instruction that the bytes at PC decode to, or
it takes the decode fault in the state before the fetch.
-/

namespace Sys2Proof.Machine

/-! ### The step that runs an instruction -/

theorem decode_fetched {s : State} {i : Instr} {rest : List Byte}
    (h : decode [busRead s s.pc, busRead s (after 1 s), busRead s (after 1 s + 1)] = .ok (i, rest)) : fetchedInstr s = i := by
  rw [decode_three, after_one] at h
  cases h
  rfl

/-- No CB instruction is a conditional transfer (R1221). -/
theorem taken_fetched (s : State) :
    taken (fetchedPrefixed s) (fetchedCode s) s =
      if busRead s s.pc = 0xCB then false else taken false (busRead s s.pc) s := by
  split
  · next h =>
    rw [(fetched_of_prefixed h).1]
    rfl
  · next h =>
    obtain ⟨hp, hc, -⟩ := fetched_of_unprefixed h
    rw [hp, hc]

/-- Settles O9: the three bytes decode to the fetched instruction, and `retire_eq` writes out what the step adds to it. -/
theorem stepRunsTheFetchedInstruction : Obligations.StepRunsTheFetchedInstruction := by
  intro s t entry i rest hf hadm hd hx
  rw [← decode_fetched hd] at hx
  rw [step_of_fetches hf, fetchExecute_of_admitted 0 hadm hx, retire_eq, taken_fetched, Nat.zero_add]

/-! ### The decode fault -/

theorem step_of_faulted {s : State} (h : s.mode = .faulted) : step s = .next s := by
  simp [step, engineStep, h]

theorem hostWake_of_ne_stopped {s : State} (h : s.mode ≠ .stopped) : hostWake s = s := if_neg h

/-- An active step that dispatches no interrupt fetches, in the state after the wake if it was HALTED (R311). -/
theorem step_of_active {s : State} (h : Active s) (hno : ¬Dispatches s) : ∃ wake, step s = fetchExecute wake (awake s) := by
  rcases h with hmode | ⟨hmode, hp⟩
  · exact ⟨0, by rw [awake_of_running hmode, step_of_fetches ⟨hmode, hno⟩]⟩
  · refine ⟨4, ?_⟩
    simp only [step, engineStep, hmode, if_neg hp]
    exact if_neg hno

theorem fetchExecute_of_no_entry {s : State} (wake : Nat) (he : fetchedEntry s = none) :
    fetchExecute wake s = .next (decodeFault .unimplementedInstruction (fetchedCode s) (fetchedPrefixed s) s) := by
  simp [fetchExecute, he]

/-- Settles O16: the fetch faults in the state after the wake, which differs from `s` in MODE only. -/
theorem decodeFaultIsPrecise : Obligations.DecodeFaultIsPrecise := by
  rintro s t code opcode prefixed hact hno hprefixed hopcode hcode rfl
  rw [after_one] at hopcode
  have hp : fetchedPrefixed (awake s) = prefixed := hprefixed.symm
  have hc : fetchedCode (awake s) = opcode := by rw [hopcode, hprefixed]; rfl
  have he : fetchedEntry (awake s) = dispatchEntry s.cfg prefixed opcode := by rw [fetchedEntry, hp, hc]; rfl
  obtain ⟨wake, hstep⟩ := step_of_active hact hno
  rcases hcode with ⟨hnone, rfl⟩ | ⟨⟨entry, hsome, hgk, hoff⟩, rfl⟩
  · refine ⟨?_, step_of_faulted rfl, hostWake_of_ne_stopped nofun, (if_pos hnone).symm⟩
    rw [hstep, fetchExecute_of_no_entry wake (he.trans hnone), hp, hc]
    rfl
  · refine ⟨?_, step_of_faulted rfl, hostWake_of_ne_stopped nofun, (if_neg (by simp [hsome])).symm⟩
    rw [hstep, fetchExecute_of_not_admitted wake (he.trans hsome) hgk hoff, hp, hc]
    rfl

/-! ### The illegal opcodes -/

/-- A hole has no entry, whatever the catalog and GK_ADMITTED (R315, R1006). -/
theorem step_of_hole {s : State} (hf : Fetches s) (h : busRead s s.pc ∈ holes) :
    step s = .next (decodeFault .unimplementedInstruction (busRead s s.pc) false s) := by
  have hne : busRead s s.pc ≠ 0xCB := fun hop => absurd (hop ▸ h) (by decide)
  obtain ⟨hp, hc, he⟩ := fetched_of_unprefixed hne
  have hnone : fetchedEntry s = none := he.trans (if_pos ⟨rfl, h⟩)
  rw [step_of_fetches hf, fetchExecute_of_no_entry 0 hnone, hp, hc]

/-- The default catalog lists every opcode but the holes (R315). -/
theorem hole_of_no_entry {cfg : Config} {prefixed : Bool} {op : Byte} (hcat : cfg.catalog = .standard)
    (h : dispatchEntry cfg prefixed op = none) : prefixed = false ∧ op ∈ holes := by
  refine Decidable.byContradiction fun hno => ?_
  rw [dispatchEntry, if_neg hno, hcat] at h
  cases h

/-- Settles O17: a hole has no entry (`step_of_hole`), and in the default catalog only a hole has none (`hole_of_no_entry`). -/
theorem illegalOpcodesFault : Obligations.IllegalOpcodesFault := by
  refine ⟨fun s x hx => ⟨_, rfl, ?_, fun hf hop => ?_, step_of_faulted rfl⟩, fun cfg prefixed op => hole_of_no_entry⟩
  · simp only [List.mem_cons, List.not_mem_nil, or_false] at hx
    rcases hx with rfl | rfl | rfl | rfl | rfl | rfl | rfl | rfl | rfl | rfl | rfl <;> rfl
  · have hhole : x.1 ∈ holes := List.mem_map_of_mem (f := Prod.fst) hx
    rw [step_of_hole hf (hop ▸ hhole), hop]
    rfl

end Sys2Proof.Machine

/-!
PROOFS. The 8-bit loads (40_load8.md R400 to R419): each is a fetch followed by one operand written, A loaded or A stored, and the
(HL+) and (HL-) forms then write HL.
-/

namespace Sys2Proof.Machine

/-! ### Operations after the fetch -/

/-- What keeps the engine state and the PC of a fetch goes on behind the instruction: the opcode byte and `n` bytes after it. -/
theorem Keeps.advances {s t : State} {n : Nat} (k : Keeps (advance n s) t) (hpc : t.pc = (advance n s).pc) :
    Advances (n + 1) s t :=
  ⟨hpc, k.haltBug, k.engine⟩

theorem set8_advance_advances (n : Nat) (r : R8) (v : Byte) (s : State) : Advances (n + 1) s (set8 r v (advance n s)) :=
  ((Keeps.refl _).set8 r v).advances (set8_pc r v _)

theorem set8_advance_resultInMemory (n : Nat) (r : R8) (v : Byte) (s : State) :
    ResultInMemory r v s (set8 r v (advance n s)) :=
  set8_resultInMemory (advance_mem n s) rfl rfl rfl

@[simp] theorem storeA_regs (addr : Word) (s : State) : (storeA addr s).regs = s.regs := busWrite_regs s addr s.a

theorem Keeps.storeA {s t : State} (k : Keeps s t) (addr : Word) : Keeps s (storeA addr t) := k.busWrite addr t.a

theorem storeA_advance_storesByte (n : Nat) (addr : Word) (s : State) :
    StoresByte addr s.a s (storeA addr (advance n s)) :=
  storesByte_of_mem (busWrite_mem (advance_mem n s) addr s.a)

/-! ### One 8-bit operand written -/

/-- A table that lists `f` at some arguments, read at one of them. -/
theorem apply_eq_of_mem_map {α β : Type} {f : α → β} {xs : List α} {a : α} {b : β}
    (h : (a, b) ∈ xs.map fun x => (x, f x)) : f a = b := by
  obtain ⟨x, -, hx⟩ := List.mem_map.mp h
  cases hx
  rfl

/-- Settles O32: the listed source values are `get8` at the state before the fetch, which the fetch keeps. -/
theorem loadRegisterOrMemory : Obligations.LoadRegisterOrMemory := by
  intro s dst src v hsrc hne
  have hv : get8 src s = v := apply_eq_of_mem_map (f := (get8 · s)) (xs := [.b, .c, .d, .e, .h, .l, .mHL, .a]) hsrc
  refine ⟨set8 dst v (advance 0 s), ?_, set8_advance_advances 0 dst v s, set8_regs dst v _,
    set8_advance_resultInMemory 0 dst v s⟩
  rw [exec_ldBlock dst src s hne, move8, get8_advance, hv]

/-- Settles O33: the operand is written after a fetch of two bytes. -/
theorem loadImmediateByte : Obligations.LoadImmediateByte := fun s dst n =>
  ⟨set8 dst n (advance 1 s), exec_ldImm8 dst n s, set8_advance_advances 1 dst n s, set8_regs dst n _,
    set8_advance_resultInMemory 1 dst n s⟩

/-! ### A through memory -/

/-- The high page by unbounded arithmetic (R306, R418). -/
theorem ofNat_highPage (n : Byte) : BitVec.ofNat 16 (0xFF00 + n.toNat) = highPage n := by
  apply BitVec.eq_of_toNat_eq
  simp [highPage]

/-- Writing HL as it was changes nothing. -/
theorem set16_hl_self {s t : State} (hh : t.h = s.h) (hl : t.l = s.l) : set16 .hl (cat s.h s.l) t = t := by
  simp [set16, ← hh, ← hl]

/-- The adjustment of (HL+) and (HL-) after an access that keeps HL. -/
theorem adjustHl_eq_set16 {s t : State} (hh : t.h = s.h) (hl : t.l = s.l) (delta : Word) :
    adjustHl delta t = set16 .hl (cat s.h s.l + delta) t := by
  simp [adjustHl, get16, hh, hl]

/-- What an instruction does that loads A from `addr` and then writes `hl` to HL. -/
theorem loadsA_of_exec {s t : State} {i : Instr} {n : Nat} {addr hl : Word} (h : exec i s = .next t)
    (ht : t = set16 .hl hl (loadA addr (advance n s))) :
    ∃ t, exec i s = .next t ∧ Advances (n + 1) s t ∧ SameMemory s t ∧
      t.regs = { s.regs with a := busRead s addr, h := hi hl, l := lo hl } := by
  subst ht
  exact ⟨_, h, (((Keeps.refl _).loadA addr).set16 .hl hl).advances rfl, sameMemory_of_mem rfl, rfl⟩

/-- What an instruction does that stores A at `addr` and then writes `hl` to HL. -/
theorem storesA_of_exec {s t : State} {i : Instr} {n : Nat} {addr hl : Word} (h : exec i s = .next t)
    (ht : t = set16 .hl hl (storeA addr (advance n s))) :
    ∃ t, exec i s = .next t ∧ Advances (n + 1) s t ∧ StoresByte addr s.a s t ∧
      t.regs = { s.regs with h := hi hl, l := lo hl } := by
  subst ht
  refine ⟨_, h, (((Keeps.refl _).storeA addr).set16 .hl hl).advances (storeA_pc addr _), storeA_advance_storesByte n addr s, ?_⟩
  rw [set16_regs, storeA_regs, advance_regs]
  rfl

/-- Settles O34: each row loads A (`loadsA_of_exec`); five of the seven leave HL as it was. -/
theorem loadAccumulatorFromMemory : Obligations.LoadAccumulatorFromMemory := by
  intro s w n
  have kept {n : Nat} {addr : Word} : loadA addr (advance n s) = set16 .hl (cat s.h s.l) (loadA addr (advance n s)) :=
    (set16_hl_self rfl rfl).symm
  simp only [ofNat_highPage, BitVec.sub_eq_add_neg, List.forall_mem_cons]
  exact ⟨loadsA_of_exec rfl kept, loadsA_of_exec rfl kept, loadsA_of_exec rfl rfl, loadsA_of_exec rfl rfl,
    loadsA_of_exec rfl kept, loadsA_of_exec rfl kept, loadsA_of_exec rfl kept, List.forall_mem_nil _⟩

/-- Settles O35: each row stores A (`storesA_of_exec`); the store keeps HL, so that the adjustment starts from the old HL. -/
theorem storeAccumulatorToMemory : Obligations.StoreAccumulatorToMemory := by
  intro s w n
  have kept {n : Nat} {addr : Word} : storeA addr (advance n s) = set16 .hl (cat s.h s.l) (storeA addr (advance n s)) :=
    (set16_hl_self (storeA_h addr _) (storeA_l addr _)).symm
  have adjusted {addr delta : Word} : adjustHl delta (storeA addr (advance 0 s)) =
      set16 .hl (cat s.h s.l + delta) (storeA addr (advance 0 s)) :=
    adjustHl_eq_set16 (storeA_h addr _) (storeA_l addr _) delta
  simp only [ofNat_highPage, BitVec.sub_eq_add_neg, List.forall_mem_cons]
  exact ⟨storesA_of_exec rfl kept, storesA_of_exec rfl kept, storesA_of_exec rfl adjusted, storesA_of_exec rfl adjusted,
    storesA_of_exec rfl kept, storesA_of_exec rfl kept, storesA_of_exec rfl kept, List.forall_mem_nil _⟩

end Sys2Proof.Machine

/-!
PROOFS. 8-bit arithmetic and logic (41_alu8.md R500 to R517): an accumulator operation is a fetch followed by A and the four flags
written, INC and DEC write one operand and keep Cf, and the results in unbounded integers are the same bytes mod 2^8 (R14, R517).
-/

namespace Sys2Proof.Machine

/-! ### A and the flags written after a fetch -/

/-- What an instruction does that writes A and the four flags. -/
theorem writesAF_of_exec {s t : State} {i : Instr} {n : Nat} {out : Out8} (h : exec i s = .next t)
    (ht : t = setFlags out.z out.n out.h out.c { advance n s with a := out.value }) :
    ∃ t, exec i s = .next t ∧ Advances (n + 1) s t ∧ SameMemory s t ∧
      t.regs = { s.regs with a := out.value, f := t.f } ∧ FlagsAre t out.z out.n out.h out.c := by
  subst ht
  exact ⟨_, h, (((Keeps.refl _).setA _).setFlags _ _ _ _).advances rfl, sameMemory_of_mem rfl, rfl, flagsAre_of_f rfl⟩

/-- What an accumulator instruction does on the value `v` (R500), by the operation's result. -/
theorem accumulates_of_exec {s : State} {i : Instr} {n : Nat} {op : AluOp} {v : Byte} {out : Out8}
    (h : exec i s = .next (aluA op v (advance n s))) (hout : aluOut op s.a v (flagC s) = out) :
    ∃ t, exec i s = .next t ∧ Advances (n + 1) s t ∧ SameMemory s t ∧
      t.regs = { s.regs with a := out.value, f := t.f } ∧ FlagsAre t out.z out.n out.h out.c :=
  writesAF_of_exec h (hout ▸ rfl)

/-- The register form reads its operand before the fetch or after it, which is the same. -/
theorem exec_aluBlock_get8 (op : AluOp) (r : R8) (s : State) :
    exec (aluBlock op r) s = .next (aluA op (get8 r s) (advance 0 s)) := by
  rw [exec_aluBlock, aluReg, get8_advance]

/-! ### Results narrowed to a byte -/

theorem ofNat8_eq_zero_iff (n : Nat) : BitVec.ofNat 8 n = 0 ↔ n % 256 = 0 := by
  rw [← BitVec.toNat_inj, BitVec.toNat_ofNat]
  rfl

theorem ofInt8_eq_zero_iff (r : Int) : BitVec.ofInt 8 r = 0 ↔ r % 256 = 0 := by
  rw [← BitVec.toNat_inj, BitVec.toNat_ofInt]
  show (r % 256).toNat = 0 ↔ _
  omega

theorem ofInt8_toNat (a : Byte) : BitVec.ofInt 8 a.toNat = a := by
  rw [BitVec.ofInt_natCast, BitVec.ofNat_toNat, BitVec.setWidth_eq]

theorem ofInt8_sub (x y : Int) : BitVec.ofInt 8 (x - y) = BitVec.ofInt 8 x - BitVec.ofInt 8 y := by
  rw [Int.sub_eq_add_neg, BitVec.ofInt_add, BitVec.ofInt_neg, BitVec.sub_eq_add_neg]

/-- An addition with Z read off the byte that A takes (R501, R502). -/
theorem addOut_z (a v : Byte) (cin : Bool) : (addOut a v cin).z = decide ((addOut a v cin).value = 0) :=
  decide_eq_decide.mpr (ofNat8_eq_zero_iff _).symm

/-- A subtraction in bytes (R503, R504). -/
theorem subOut_value (a v : Byte) (cin : Bool) : (subOut a v cin).value = a - v - BitVec.ofNat 8 cin.toNat := by
  rw [subOut, ofInt8_sub, ofInt8_sub, ofInt8_toNat, ofInt8_toNat, BitVec.ofInt_natCast]

theorem subOut_z (a v : Byte) (cin : Bool) : (subOut a v cin).z = decide (a - v - BitVec.ofNat 8 cin.toNat = 0) := by
  rw [← subOut_value]
  exact decide_eq_decide.mpr (ofInt8_eq_zero_iff _).symm

/-! ### The accumulator operations -/

/-- What an instruction does that adds (R501, R502). -/
theorem adds_of_exec {s : State} {i : Instr} {n : Nat} {op : AluOp} {v : Byte} (cin : Bool)
    (h : exec i s = .next (aluA op v (advance n s))) (hop : aluOut op s.a v (flagC s) = addOut s.a v cin) :
    ∃ t, exec i s = .next t ∧ Advances (n + 1) s t ∧ SameMemory s t ∧
      t.regs = { s.regs with a := BitVec.ofNat 8 (s.a.toNat + v.toNat + cin.toNat), f := t.f } ∧
      FlagsAre t (t.a = 0) false (s.a.toNat % 16 + v.toNat % 16 + cin.toNat > 15)
        (s.a.toNat + v.toNat + cin.toNat > 255) := by
  obtain ⟨t, hexec, hadv, hmem, hregs, hflags⟩ := accumulates_of_exec h hop
  have ha : t.a = (addOut s.a v cin).value := congrArg Regs.a hregs
  rw [addOut_z, ← ha] at hflags
  exact ⟨t, hexec, hadv, hmem, hregs, hflags⟩

/-- Settles O36: each row adds (`adds_of_exec`), ADD without a carry and ADC with Cf. -/
theorem addAndAddWithCarry : Obligations.AddAndAddWithCarry := by
  intro s r d
  simp only [List.forall_mem_cons]
  exact ⟨adds_of_exec false (exec_aluBlock_get8 .add r s) rfl, adds_of_exec false (exec_aluImm .add d s) rfl,
    adds_of_exec (flagC s) (exec_aluBlock_get8 .adc r s) rfl, adds_of_exec (flagC s) (exec_aluImm .adc d s) rfl,
    List.forall_mem_nil _⟩

/-- What an instruction does that subtracts, or compares and then writes A as it was (R503, R504, R508). -/
theorem subtracts_of_exec {s : State} {i : Instr} {n : Nat} {op : AluOp} {v : Byte} (cin keepA : Bool)
    (h : exec i s = .next (aluA op v (advance n s)))
    (hop : aluOut op s.a v (flagC s) =
      { subOut s.a v cin with value := if keepA then s.a else (subOut s.a v cin).value }) :
    ∃ t, exec i s = .next t ∧ Advances (n + 1) s t ∧ SameMemory s t ∧
      t.regs = { s.regs with a := if keepA then s.a else s.a - v - BitVec.ofNat 8 cin.toNat, f := t.f } ∧
      FlagsAre t (s.a - v - BitVec.ofNat 8 cin.toNat = 0) true (s.a.toNat % 16 < v.toNat % 16 + cin.toNat)
        (s.a.toNat < v.toNat + cin.toNat) := by
  rw [← subOut_z, ← subOut_value]
  exact accumulates_of_exec h hop

/-- Settles O37: each row subtracts (`subtracts_of_exec`), SBC with Cf, and CP keeps A. -/
theorem subtractAndCompare : Obligations.SubtractAndCompare := by
  intro s r d
  simp only [List.forall_mem_cons]
  exact ⟨subtracts_of_exec false false (exec_aluBlock_get8 .sub r s) rfl,
    subtracts_of_exec false false (exec_aluImm .sub d s) rfl,
    subtracts_of_exec (flagC s) false (exec_aluBlock_get8 .sbc r s) rfl,
    subtracts_of_exec (flagC s) false (exec_aluImm .sbc d s) rfl,
    subtracts_of_exec false true (exec_aluBlock_get8 .cp r s) rfl,
    subtracts_of_exec false true (exec_aluImm .cp d s) rfl, List.forall_mem_nil _⟩

/-- Settles O38: the result of each row is `logicOut` of the bitwise operation. -/
theorem logicalOperations : Obligations.LogicalOperations := by
  intro s r d
  simp only [List.forall_mem_cons]
  exact ⟨accumulates_of_exec (exec_aluBlock_get8 .and r s) rfl, accumulates_of_exec (exec_aluImm .and d s) rfl,
    accumulates_of_exec (exec_aluBlock_get8 .xor r s) rfl, accumulates_of_exec (exec_aluImm .xor d s) rfl,
    accumulates_of_exec (exec_aluBlock_get8 .or r s) rfl, accumulates_of_exec (exec_aluImm .or d s) rfl,
    List.forall_mem_nil _⟩

/-! ### INC and DEC -/

/-- What an instruction does that writes one 8-bit operand and the four flags (R509 to R512). -/
theorem writesOperand_of_exec {s t : State} {i : Instr} {r : R8} {v : Byte} {z n h c : Bool} (hexec : exec i s = .next t)
    (ht : t = setFlags z n h c (set8 r v (advance 0 s))) :
    ∃ t, exec i s = .next t ∧ Advances 1 s t ∧ ResultInMemory r v s t ∧
      t.regs = { s.regs.put8 r v with f := t.f } ∧ FlagsAre t z n h c := by
  subst ht
  refine ⟨_, hexec, (((Keeps.refl _).set8 r v).setFlags _ _ _ _).advances (set8_pc r v _),
    set8_resultInMemory (advance_mem 0 s) rfl rfl (setFlags_mem _ _ _ _ _), ?_, flagsAre_of_f rfl⟩
  rw [setFlags_regs, set8_regs]
  rfl

/-- Settles O39: the operand is read at the state before the fetch, and Cf passes through as it was. -/
theorem incrementAndDecrementByte : Obligations.IncrementAndDecrementByte := fun s r =>
  ⟨writesOperand_of_exec (exec_inc8Of r s) (by rw [inc8, get8_advance, flagC_advance]),
    writesOperand_of_exec (exec_dec8Of r s) (by rw [dec8, get8_advance, flagC_advance])⟩

/-! ### DAA -/

/-- After an addition (N = 0) the two tests say what DAA adds in bytes, and the first one is the new Cf (R513). -/
theorem daaOut_of_addition {n : Bool} (hn : n = false) (a : Byte) (h c : Bool) :
    BitVec.ofInt 8 (daaOut a n h c).1 = a + (if c = true ∨ a.toNat > 0x99 then 0x60 else 0) +
      (if h = true ∨ a.toNat % 16 > 9 then 0x06 else 0) ∧
    (daaOut a n h c).2 = decide (c = true ∨ a.toNat > 0x99) := by
  subst hn
  simp [daaOut, BitVec.ofInt_add, apply_ite (BitVec.ofInt 8)]

/-- After a subtraction (N = 1) Cf and Hf say what DAA subtracts in bytes, and Cf is kept (R513). -/
theorem daaOut_of_subtraction {n : Bool} (hn : n = true) (a : Byte) (h c : Bool) :
    BitVec.ofInt 8 (daaOut a n h c).1 = a - (if c = true then 0x60 else 0) - (if h = true then 0x06 else 0) ∧
    (daaOut a n h c).2 = c := by
  subst hn
  simp [daaOut, ofInt8_sub, apply_ite (BitVec.ofInt 8)]

/-- DAA reads Z off the byte it leaves in A; N is kept and Hf is 0. -/
theorem daaA_flagsAre {s : State} {n c : Bool} (hn : flagN s = n)
    (hc : (daaOut s.a (flagN s) (flagH s) (flagC s)).2 = c) :
    FlagsAre (daaA s) ((daaA s).a = 0) n false c := by
  have hz : decide ((daaOut s.a (flagN s) (flagH s) (flagC s)).1 % 256 = 0) = decide ((daaA s).a = 0) :=
    decide_eq_decide.mpr (ofInt8_eq_zero_iff _).symm
  rw [← hz, ← hn, ← hc]
  exact flagsAre_of_f rfl

/-- Settles O40: N selects between `daaOut_of_addition` and `daaOut_of_subtraction`. -/
theorem decimalAdjust : Obligations.DecimalAdjust := by
  intro s
  refine ⟨daaA (advance 0 s), rfl, (((Keeps.refl _).setA _).setFlags _ _ _ _).advances rfl, sameMemory_of_mem rfl, rfl,
    fun hn => ?_, fun hn => ?_⟩
  · obtain ⟨ha, hc⟩ := daaOut_of_addition hn s.a (flagH s) (flagC s)
    exact ⟨ha, daaA_flagsAre hn hc⟩
  · obtain ⟨ha, hc⟩ := daaOut_of_subtraction hn s.a (flagH s) (flagC s)
    exact ⟨ha, daaA_flagsAre hn hc⟩

/-! ### CPL, SCF and CCF -/

/-- Settles O41: CPL writes the complement of A, SCF and CCF write A as it was. -/
theorem complementAndCarryFlag : Obligations.ComplementAndCarryFlag := by
  intro s
  have hcpl : 0xFF - s.a = ~~~s.a := BitVec.allOnes_sub_eq_not s.a
  simp only [List.forall_mem_cons, hcpl]
  exact ⟨writesAF_of_exec (out := ⟨~~~s.a, flagZ s, true, true, flagC s⟩) rfl rfl,
    writesAF_of_exec (out := ⟨s.a, flagZ s, false, false, true⟩) rfl rfl,
    writesAF_of_exec (out := ⟨s.a, flagZ s, false, false, !flagC s⟩) rfl rfl, List.forall_mem_nil _⟩

end Sys2Proof.Machine

/-!
PROOFS. The 16-bit loads and the stack (42_load16_stack.md R600 to R607) and ADD SP,e8 (43_alu16.md R703, R704): after the fetch
each writes one pair or SP, stores two bytes, or moves two bytes between a pair and the stack.
-/

namespace Sys2Proof.Machine

/-! ### A pair or SP written after a fetch -/

/-- What an instruction does that writes one pair or SP. -/
theorem writesPair_of_exec {s : State} {i : Instr} {n : Nat} {w : Word} (rr : Reg16)
    (h : exec i s = .next (set16 rr w (advance n s))) :
    ∃ t, exec i s = .next t ∧ Advances (n + 1) s t ∧ SameMemory s t ∧ t.regs = s.regs.put16 rr w :=
  ⟨_, h, ((Keeps.refl _).set16 rr w).advances (set16_pc rr w _), sameMemory_of_mem (set16_mem rr w _), set16_regs rr w _⟩

/-- Settles O42: each row writes one pair or SP (`writesPair_of_exec`). -/
theorem loadPair : Obligations.LoadPair := by
  intro s w
  simp only [List.forall_mem_cons]
  exact ⟨writesPair_of_exec .bc rfl, writesPair_of_exec .de rfl, writesPair_of_exec .hl rfl, writesPair_of_exec .sp rfl,
    writesPair_of_exec .sp rfl, List.forall_mem_nil _⟩

/-! ### SP plus a displacement -/

/-- The sum of R704 in unbounded integers (R14). -/
theorem ofInt_sp_add_toInt (e : Byte) (s : State) : BitVec.ofInt 16 (s.sp.toNat + e.toInt) = (spAddE e s).1 := by
  rw [BitVec.ofInt_add, BitVec.ofInt_natCast, BitVec.ofNat_toNat, BitVec.setWidth_eq]
  rfl

/-- What an instruction does that writes SP plus a displacement and the four flags (R604, R703, R704). -/
theorem writesSpPlus_of_exec {s : State} {i : Instr} {e : Byte} (dst : Reg16)
    (h : exec i s = .next (spPlus dst e (advance 1 s))) :
    ∃ t, exec i s = .next t ∧ Advances 2 s t ∧ SameMemory s t ∧
      t.regs = { s.regs.put16 dst (BitVec.ofInt 16 (s.sp.toNat + e.toInt)) with f := t.f } ∧
      FlagsAre t false false (s.sp.toNat % 16 + e.toNat % 16 > 15) (s.sp.toNat % 256 + e.toNat > 255) := by
  refine ⟨_, h, ((Keeps.refl _).spPlus dst e).advances (spPlus_pc dst e _), sameMemory_of_mem (spPlus_mem dst e _), ?_,
    flagsAre_of_f rfl⟩
  rw [ofInt_sp_add_toInt, spPlus, setFlags_regs, set16_regs]
  rfl

/-- Settles O44: both rows write SP plus the displacement (`writesSpPlus_of_exec`), to HL and to SP. -/
theorem stackPointerPlusDisplacement : Obligations.StackPointerPlusDisplacement := by
  intro s e
  simp only [List.forall_mem_cons]
  exact ⟨writesSpPlus_of_exec .hl rfl, writesSpPlus_of_exec .sp rfl, List.forall_mem_nil _⟩

/-! ### Two bytes stored -/

@[simp] theorem memWrite16_regs (s : State) (addr v : Word) : (memWrite16 s addr v).regs = s.regs := by simp [memWrite16]

theorem Keeps.memWrite16 {s t : State} (k : Keeps s t) (addr v : Word) : Keeps s (memWrite16 t addr v) :=
  (k.busWrite addr (lo v)).busWrite (addr + 1) (hi v)

/-- Settles O43: SP is stored by `memWrite16`, the low byte first (`memWrite16_storesTwo`). -/
theorem storeStackPointer : Obligations.StoreStackPointer := fun s w =>
  ⟨memWrite16 (advance 2 s) w s.sp, rfl, ((Keeps.refl _).memWrite16 w s.sp).advances (memWrite16_pc _ w s.sp),
    memWrite16_regs _ w s.sp, memWrite16_storesTwo (advance_mem 2 s) rfl⟩

/-- What an instruction does that pushes the pair of `u` and `v` (R600). -/
theorem pushes_of_exec {s : State} {i : Instr} {u v : Byte} (h : exec i s = .next (push16 (cat u v) (advance 0 s))) :
    ∃ t, exec i s = .next t ∧ Advances 1 s t ∧ t.regs = { s.regs with sp := s.sp - 2 } ∧
      StoresTwo (s.sp - 1) u (s.sp - 2) v s t := by
  have hstores := push16_storesTwo (v := cat u v) (advance_mem 0 s) (advance_sp 0 s) rfl
  rw [hi_cat, lo_cat] at hstores
  exact ⟨_, h, ((Keeps.refl _).push16 _).advances (push16_pc _ _), push16_regs _ _, hstores⟩

/-- Settles O45: each row pushes its pair, which `get16` puts together from the two registers (`pushes_of_exec`). -/
theorem pushPair : Obligations.PushPair := by
  intro s
  simp only [List.forall_mem_cons]
  exact ⟨pushes_of_exec rfl, pushes_of_exec rfl, pushes_of_exec rfl, pushes_of_exec rfl, List.forall_mem_nil _⟩

/-! ### Two bytes popped -/

theorem Keeps.pop16To {s t : State} (k : Keeps s t) (rr : Reg16) : Keeps s (pop16To rr t) := (k.setSp _).set16 rr _

@[simp] theorem pop16To_regs (rr : Reg16) (s : State) :
    (pop16To rr s).regs = ({ s.regs with sp := s.sp + 2 } : Regs).put16 rr (popValue s) :=
  set16_regs rr (popValue s) (popped s)

/-- What an instruction does that pops a pair (R600). -/
theorem pops_of_exec {s : State} {i : Instr} (rr : Reg16) (h : exec i s = .next (pop16To rr (advance 0 s))) :
    ∃ t, exec i s = .next t ∧ Advances 1 s t ∧ SameMemory s t ∧
      t.regs = ({ s.regs with sp := s.sp + 2 } : Regs).put16 rr (popValue s) :=
  ⟨_, h, ((Keeps.refl _).pop16To rr).advances (pop16To_pc rr _), sameMemory_of_mem (pop16To_mem rr _), pop16To_regs rr _⟩

/-- Settles O46: the two bytes are the halves of `popValue`, and each row pops it (`pops_of_exec`). -/
theorem popPair : Obligations.PopPair := by
  intro s h l hh hl
  have hhi : hi (popValue s) = h := (hi_cat _ _).trans hh.symm
  have hlo : lo (popValue s) = l := (lo_cat _ _).trans hl.symm
  rw [← hhi, ← hlo]
  simp only [List.forall_mem_cons]
  exact ⟨pops_of_exec .bc rfl, pops_of_exec .de rfl, pops_of_exec .hl rfl, pops_of_exec .af rfl, List.forall_mem_nil _⟩

end Sys2Proof.Machine

/-!
PROOFS. 16-bit arithmetic (43_alu16.md R700 to R702): ADD HL,rr is a fetch followed by HL and the four flags written, INC rr and
DEC rr a fetch followed by one pair or SP written.
-/

namespace Sys2Proof.Machine

/-! ### A pair added to HL -/

theorem Keeps.addHl {s t : State} (k : Keeps s t) (rr : Reg16) : Keeps s (addHl rr t) := (k.set16 .hl _).setFlags _ _ _ _

/-- The sum taken in unbounded arithmetic and narrowed is the sum of words (R14). -/
theorem addHl_regs (rr : Reg16) (s : State) :
    (addHl rr s).regs = { s.regs.put16 .hl (cat s.h s.l + get16 rr s) with f := (addHl rr s).f } := by
  rw [BitVec.add_def, addHl, setFlags_regs, set16_regs]
  rfl

/-- Z is kept, Hf is the carry from bit 11 and Cf the one from bit 15 (R700). -/
theorem addHl_flagsAre (rr : Reg16) (s : State) :
    FlagsAre (addHl rr s) (flagZ s) false ((cat s.h s.l).toNat % 0x1000 + (get16 rr s).toNat % 0x1000 > 0x0FFF)
      ((cat s.h s.l).toNat + (get16 rr s).toNat > 0xFFFF) :=
  flagsAre_of_f rfl

/-- What an instruction does that adds a pair or SP to HL (R700). -/
theorem addsToHl_of_exec {s : State} {i : Instr} (rr : Reg16) (h : exec i s = .next (addHl rr (advance 0 s))) :
    ∃ t, exec i s = .next t ∧ Advances 1 s t ∧ SameMemory s t ∧
      t.regs = { s.regs.put16 .hl (cat s.h s.l + get16 rr s) with f := t.f } ∧
      FlagsAre t (flagZ s) false ((cat s.h s.l).toNat % 0x1000 + (get16 rr s).toNat % 0x1000 > 0x0FFF)
        ((cat s.h s.l).toNat + (get16 rr s).toNat > 0xFFFF) := by
  rw [← get16_advance rr 0 s]
  exact ⟨_, h, ((Keeps.refl _).addHl rr).advances (addHl_pc rr _), sameMemory_of_mem (addHl_mem rr _), addHl_regs rr _,
    addHl_flagsAre rr _⟩

/-- Settles O47: each row adds its pair or SP to HL (`addsToHl_of_exec`). -/
theorem addToHl : Obligations.AddToHl := by
  intro s
  simp only [List.forall_mem_cons]
  exact ⟨addsToHl_of_exec .bc rfl, addsToHl_of_exec .de rfl, addsToHl_of_exec .hl rfl, addsToHl_of_exec .sp rfl,
    List.forall_mem_nil _⟩

/-! ### A pair counted up and down -/

/-- Settles O48: each row writes one pair or SP (`writesPair_of_exec`), and none of them writes F. -/
theorem incrementAndDecrementPair : Obligations.IncrementAndDecrementPair := by
  intro s
  simp only [List.forall_mem_cons]
  exact ⟨writesPair_of_exec .bc rfl, writesPair_of_exec .de rfl, writesPair_of_exec .hl rfl, writesPair_of_exec .sp rfl,
    writesPair_of_exec .bc rfl, writesPair_of_exec .de rfl, writesPair_of_exec .hl rfl, writesPair_of_exec .sp rfl,
    List.forall_mem_nil _⟩

end Sys2Proof.Machine

/-!
PROOFS. Rotates, shifts and bit operations (44_rotate_shift_bit.md R800 to R815): each result read off the bits of the operand,
and the operand and the flags written after a fetch. With them the default costs of the CB table (R804) and of the conditional
transfers (R902, R905, R907, R909).
-/

namespace Sys2Proof.Machine

/-! ### The bits of a result -/

/-- A byte rotated or shifted, at each of its eight bits; RL and RR also shift a bit in (R800 to R812). -/
theorem rotOut_getLsbD (op : RotOp) (v : Byte) (cin : Bool) {k : Nat} (hk : k < 8) :
    (rotOut op v cin).1.getLsbD k = movedBit op v cin k := by
  cases op with
  | rlc | rrc | sla | sra | swap | srl =>
    rcases lt_eight hk with rfl | rfl | rfl | rfl | rfl | rfl | rfl | rfl <;> simp [rotOut, movedBit]
  | rl | rr =>
    rcases lt_eight hk with rfl | rfl | rfl | rfl | rfl | rfl | rfl | rfl <;> cases cin <;> simp [rotOut, movedBit]

theorem rotOut_outBit (op : RotOp) (v : Byte) (cin : Bool) : (rotOut op v cin).2 = outBit op v := by
  cases op <;> rfl

/-- The byte that has only bit `b`. -/
theorem getLsbD_one_shiftLeft {b : Nat} (hb : b < 8) (k : Nat) : (1#8 <<< b).getLsbD k = decide (k = b) := by
  rw [← BitVec.twoPow_eq, BitVec.getLsbD_twoPow, decide_eq_true hb, Bool.true_and]
  exact decide_eq_decide.mpr eq_comm

/-- RES, bit by bit (R814). -/
theorem getLsbD_and_not_bit (v : Byte) {b k : Nat} (hb : b < 8) (hk : k < 8) :
    (v &&& (0xFF ^^^ (1#8 <<< b))).getLsbD k = if k = b then false else v.getLsbD k := by
  have hones : (0xFF : Byte).getLsbD k = true := by
    rcases lt_eight hk with rfl | rfl | rfl | rfl | rfl | rfl | rfl | rfl <;> rfl
  rw [BitVec.getLsbD_and, BitVec.getLsbD_xor, hones, getLsbD_one_shiftLeft hb]
  split <;> simp [*]

/-- SET, bit by bit (R815). -/
theorem getLsbD_or_bit (v : Byte) {b : Nat} (hb : b < 8) (k : Nat) :
    (v ||| (1#8 <<< b)).getLsbD k = if k = b then true else v.getLsbD k := by
  rw [BitVec.getLsbD_or, getLsbD_one_shiftLeft hb]
  split <;> simp [*]

/-! ### Rotates of A -/

/-- What an instruction does that rotates A (R800 to R803). -/
theorem rotatesA_of_exec {s : State} {i : Instr} {op : RotOp} (h : exec i s = .next (rotateA op (advance 0 s))) :
    ∃ t, exec i s = .next t ∧ Advances 1 s t ∧ SameMemory s t ∧ t.regs = { s.regs with a := t.a, f := t.f } ∧
      (∀ k < 8, t.a.getLsbD k = movedBit op s.a (flagC s) k) ∧ FlagsAre t false false false (outBit op s.a) :=
  ⟨_, h, (((Keeps.refl _).setA _).setFlags _ _ _ _).advances rfl, sameMemory_of_mem rfl, rfl,
    fun _ hk => rotOut_getLsbD op s.a (flagC s) hk, rotOut_outBit op s.a (flagC s) ▸ flagsAre_of_f rfl⟩

/-- Settles O49: each row rotates A, with Cf in for RLA and RRA (`rotatesA_of_exec`). -/
theorem rotateAccumulator : Obligations.RotateAccumulator := by
  intro s
  simp only [List.forall_mem_cons]
  exact ⟨rotatesA_of_exec rfl, rotatesA_of_exec rfl, rotatesA_of_exec rfl, rotatesA_of_exec rfl, List.forall_mem_nil _⟩

/-! ### The CB table -/

/-- Settles O50: the operand is read before the fetch, and `rotOut_getLsbD` says each bit of what is written back. -/
theorem rotateAndShiftOperand : Obligations.RotateAndShiftOperand := by
  intro s op r
  refine ⟨cbRotate op r (advance 1 s), (rotOut op (get8 r s) (flagC s)).1, exec_rotBlock op r s, ?_,
    fun _ hk => rotOut_getLsbD op (get8 r s) (flagC s) hk, ?_, ?_, ?_⟩
  all_goals rw [cbRotate, get8_advance, flagC_advance]
  · exact (((Keeps.refl _).set8 r _).setFlags _ _ _ _).advances (set8_pc r _ _)
  · exact set8_resultInMemory (advance_mem 1 s) rfl rfl (setFlags_mem _ _ _ _ _)
  · rw [setFlags_regs, set8_regs]
    rfl
  · rw [← rotOut_outBit op (get8 r s) (flagC s)]
    exact flagsAre_of_f rfl

/-- Settles O51: only F is written, and the operand is read before the fetch. -/
theorem testBit : Obligations.TestBit := fun s b r hb =>
  ⟨cbBit b r (advance 1 s), exec_bitBlock hb r s, ((Keeps.refl _).setFlags _ _ _ _).advances rfl, sameMemory_of_mem rfl, rfl,
    get8_advance r 1 s ▸ flagsAre_of_f rfl⟩

/-- What an instruction of two bytes does that writes one 8-bit operand and no flag (R814, R815). -/
theorem writesOperandOnly_of_exec {s : State} {i : Instr} {r : R8} {v : Byte} {bits : Nat → Bool}
    (h : exec i s = .next (set8 r v (advance 1 s))) (hbits : ∀ k < 8, v.getLsbD k = bits k) :
    ∃ t v, exec i s = .next t ∧ Advances 2 s t ∧ (∀ k < 8, v.getLsbD k = bits k) ∧ ResultInMemory r v s t ∧
      t.regs = s.regs.put8 r v :=
  ⟨_, v, h, set8_advance_advances 1 r v s, hbits, set8_advance_resultInMemory 1 r v s, set8_regs r v _⟩

/-- Settles O52: both write the operand with bit `b` changed (`getLsbD_and_not_bit`, `getLsbD_or_bit`). -/
theorem clearAndSetBit : Obligations.ClearAndSetBit := by
  intro s b r hb
  have hres := exec_resBlock hb r s
  have hset := exec_setBlock hb r s
  rw [cbRes, get8_advance] at hres
  rw [cbSet, get8_advance] at hset
  simp only [List.forall_mem_cons]
  exact ⟨writesOperandOnly_of_exec hres fun _ hk => getLsbD_and_not_bit _ hb hk,
    writesOperandOnly_of_exec hset fun k _ => getLsbD_or_bit _ hb k, List.forall_mem_nil _⟩

/-! ### Default costs -/

/-- A cost pair is read by the condition of its opcode (R312, R1221). -/
theorem costFor_taken {code : Byte} {cc : Cond} {cost : Cost} {t n : Nat} (s : State) (hcost : cost = .pair t n)
    (hcc : conditionOf false code = some cc) :
    costFor cost (taken false code s) = if condHolds cc s then t else n := by
  simp only [hcost, costFor, taken, hcc]

/-- The rows of the conditional transfers in the default catalog: JR cc, RET cc, JP cc and CALL cc (R905, R909, R902, R907). -/
theorem standardMainCost_conditional : ∀ x ∈ [(0x20, 12, 8), (0xC0, 20, 8), (0xC2, 16, 12), (0xC4, 24, 12)], ∀ k < 4,
    standardMainCost (BitVec.ofNat 8 (x.1 + 8 * k)) = .pair x.2.1 x.2.2 ∧
      conditionOf false (BitVec.ofNat 8 (x.1 + 8 * k)) = some (condOfIndex k) := by
  decide

/-- The CB table: the operand (HL) is z = 6, BIT is x = 1, which is 0x40 to 0x7F (R804). -/
theorem standardCbCost_eq (code : Byte) : standardCbCost code =
    if code.toNat % 8 = 6 then (if 0x40 ≤ code.toNat ∧ code.toNat ≤ 0x7F then .one 12 else .one 16) else .one 8 := by
  have hx : fieldX code = 1 ↔ 0x40 ≤ code.toNat ∧ code.toNat ≤ 0x7F := by
    unfold fieldX
    omega
  simp only [standardCbCost, fieldZ, hx, ite_not]

/-- Settles O10: the rows by `standardMainCost_conditional`, where the condition index `k` is the field cc of the opcode. -/
theorem defaultCosts : Obligations.DefaultCosts := by
  refine ⟨fun s k cc hcc x hx => ?_, standardCbCost_eq⟩
  obtain ⟨hk, rfl⟩ := lt_and_eq_of_getElem?_map_range (f := condOfIndex) (n := 4) hcc
  obtain ⟨hcost, hcond⟩ := standardMainCost_conditional x hx k hk
  exact costFor_taken s hcost hcond

end Sys2Proof.Machine

/-!
PROOFS. Control transfer (45_control.md R900 to R911): each instruction is a fetch followed, when its condition holds, by a new
PC, with a word pushed or popped for a call or a return.
-/

namespace Sys2Proof.Machine

/-! ### Jumps -/

/-- A displacement by unbounded arithmetic (R14, R904). -/
theorem ofInt_toNat_add_toInt (w : Word) (e : Byte) : BitVec.ofInt 16 (w.toNat + e.toInt) = w + sext8 e := by
  rw [BitVec.ofInt_add, BitVec.ofInt_natCast, BitVec.ofNat_toNat, BitVec.setWidth_eq]
  rfl

/-- A displacement that counts only under a condition (R905). -/
theorem ofInt_toNat_add_ite (w : Word) (e : Byte) (p : Prop) [Decidable p] :
    BitVec.ofInt 16 (w.toNat + if p then e.toInt else 0) = if p then w + sext8 e else w := by
  split
  · exact ofInt_toNat_add_toInt w e
  · rw [Int.add_zero, BitVec.ofInt_natCast, BitVec.ofNat_toNat, BitVec.setWidth_eq]

/-- What an instruction does that writes PC and nothing else (R901, R903, R904). -/
theorem jumps_of_exec {s : State} {i : Instr} {n : Nat} {target : Word} (h : exec i s = .next (jumpTo target (advance n s))) :
    ∃ t, exec i s = .next t ∧ GoesTo target s t ∧ SameMemory s t ∧ t.regs = s.regs :=
  ⟨_, h, ⟨rfl, rfl, rfl⟩, sameMemory_of_mem rfl, rfl⟩

/-- A jump that is not taken goes to the address after the instruction. -/
theorem when_jumpTo_advance (cc : Cond) (n : Nat) (target : Word) (s : State) :
    when cc (jumpTo target) (advance n s) =
      jumpTo (if condHolds cc (advance n s) then target else after (n + 1) s) (advance n s) := by
  unfold when
  split <;> rfl

/-- What a conditional jump does, whose condition is `p` (R902, R905). -/
theorem jumpsIf_of_exec {s : State} {i : Instr} {n : Nat} {target : Word} {p : Prop} [Decidable p] (cc : Cond)
    (hp : condHolds cc (advance n s) = true ↔ p) (h : exec i s = .next (when cc (jumpTo target) (advance n s))) :
    ∃ t, exec i s = .next t ∧ GoesTo (if p then target else after (n + 1) s) s t ∧ SameMemory s t ∧ t.regs = s.regs := by
  simp only [when_jumpTo_advance, hp] at h
  exact jumps_of_exec h

/-- Settles O53: a relative jump is a jump to the address after the instruction plus the displacement
(`ofInt_toNat_add_toInt`), and the conditional rows are `jumpsIf_of_exec`. -/
theorem jumps : Obligations.Jumps := by
  intro s w e
  have hnot (b : Bool) : (!b) = true ↔ b = false := iff_of_eq (Bool.not_eq_true' b)
  simp only [ofInt_toNat_add_toInt, ofInt_toNat_add_ite, List.forall_mem_cons]
  exact ⟨jumps_of_exec (n := 2) rfl, jumps_of_exec (n := 0) rfl,
    jumpsIf_of_exec .nz (hnot _) rfl, jumpsIf_of_exec .z Iff.rfl rfl,
    jumpsIf_of_exec .nc (hnot _) rfl, jumpsIf_of_exec .c Iff.rfl rfl,
    jumps_of_exec (n := 1) rfl,
    jumpsIf_of_exec .nz (hnot _) rfl, jumpsIf_of_exec .z Iff.rfl rfl,
    jumpsIf_of_exec .nc (hnot _) rfl, jumpsIf_of_exec .c Iff.rfl rfl, List.forall_mem_nil _⟩

/-! ### Calls -/

/-- What a call of `n` bytes does, taken or not: the address after it is pushed (R906, R907, R911). -/
theorem calls_of_exec {s : State} {i : Instr} {n : Nat} {target : Word} {taken : Bool}
    (h : exec i s = .next (if taken then callTo target (advance (n - 1) s) else advance (n - 1) s)) :
    ∃ t, exec i s = .next t ∧
      (taken = true → GoesTo target s t ∧ t.regs = { s.regs with sp := s.sp - 2 } ∧
        StoresTwo (s.sp - 1) (hi (after n s)) (s.sp - 2) (lo (after n s)) s t) ∧
      (taken = false → Advances n s t ∧ t.regs = s.regs ∧ SameMemory s t) := by
  refine ⟨_, h, ?_, ?_⟩
  · rintro rfl
    have k := (Keeps.refl (advance (n - 1) s)).callTo target
    exact ⟨⟨rfl, k.haltBug, k.engine⟩, push16_regs _ _, push16_storesTwo (advance_mem _ s) (advance_sp _ s) rfl⟩
  · rintro rfl
    exact ⟨⟨rfl, rfl, rfl⟩, rfl, sameMemory_of_mem rfl⟩

/-- Settles O54: each row is a call (`calls_of_exec`), CALL a16 and RST with `taken` true. -/
theorem callsAndRestarts : Obligations.CallsAndRestarts := by
  intro s w x hx
  apply calls_of_exec
  simp only [List.mem_cons, List.not_mem_nil, or_false] at hx
  rcases hx with rfl | rfl | rfl | rfl | rfl | rfl | rfl | rfl | rfl | rfl | rfl | rfl | rfl <;> rfl

/-! ### Returns -/

/-- What a return does, taken or not (R908, R909). -/
theorem returns_of_exec {s : State} {i : Instr} {taken : Bool}
    (h : exec i s = .next (if taken then returnToCaller (advance 0 s) else advance 0 s)) :
    ∃ t, exec i s = .next t ∧ SameMemory s t ∧
      (taken = true → GoesTo (popValue s) s t ∧ t.regs = { s.regs with sp := s.sp + 2 }) ∧
      (taken = false → Advances 1 s t ∧ t.regs = s.regs) := by
  refine ⟨_, h, ?_, ?_, ?_⟩
  · split <;> exact sameMemory_of_mem rfl
  · rintro rfl
    exact ⟨⟨rfl, rfl, rfl⟩, rfl⟩
  · rintro rfl
    exact ⟨(Keeps.refl _).advances rfl, rfl⟩

/-- Settles O55: each conditional or plain row is a return (`returns_of_exec`), RET with `taken` true; RETI pops alike and writes
IME and EI_PENDING. -/
theorem returns : Obligations.Returns := by
  rintro s _ rfl
  constructor
  · intro x hx
    apply returns_of_exec
    simp only [List.mem_cons, List.not_mem_nil, or_false] at hx
    rcases hx with rfl | rfl | rfl | rfl | rfl <;> rfl
  · exact ⟨returnFromInterrupt (advance 0 s), rfl, sameMemory_of_mem rfl, rfl, rfl, rfl, rfl⟩

end Sys2Proof.Machine

/-!
PROOFS. System and miscellaneous instructions (46_system.md R1000 to R1005): each is a fetch followed by a write of engine state
only, and the prefix byte runs the CB entry of the byte after it.
-/

namespace Sys2Proof.Machine

/-- Settles O56: each row answers the state after its fetch with only its own engine fields written. -/
theorem nopStopDiEi : Obligations.NopStopDiEi := by
  intro s b
  simp only [List.forall_mem_cons]
  exact ⟨⟨advance 0 s, rfl, rfl, rfl, rfl, rfl, sameMemory_of_mem rfl⟩,
    ⟨{ advance 1 s with mode := .stopped }, rfl, rfl, rfl, rfl, rfl, sameMemory_of_mem rfl⟩,
    ⟨{ advance 0 s with ime := false, eiPending := false }, rfl, rfl, rfl, rfl, rfl, sameMemory_of_mem rfl⟩,
    ⟨{ advance 0 s with eiPending := true }, rfl, rfl, rfl, rfl, rfl, sameMemory_of_mem rfl⟩, List.forall_mem_nil _⟩

/-- When HALT arms the HALT bug; an older one is cleared by its own fetch (R310, R1001). -/
theorem haltCore_advance_haltBug_iff (n : Nat) (s : State) : (haltCore (advance n s)).haltBug = true ↔
    s.cfg.gkAdmitted = true ∧ s.ime = false ∧ pending s ≠ 0 := by
  have hpending : pending (advance n s) = pending s := rfl
  simp only [haltCore_haltBug, advance_haltBug, advance_cfg, advance_ime, hpending, Bool.false_or, Bool.and_eq_true,
    Bool.not_eq_true', decide_eq_true_iff, and_assoc]

/-- Settles O57: HALT is `haltCore` after the fetch, whose HALT_BUG is `haltCore_advance_haltBug_iff`. -/
theorem haltEntersHalted : Obligations.HaltEntersHalted := fun s =>
  ⟨haltCore (advance 0 s), rfl, rfl, rfl, haltCore_advance_haltBug_iff 0 s, rfl, sameMemory_of_mem rfl⟩

/-- Settles O58: the CB entry of any byte is what the prefix row runs (`exec_cbInstr`). -/
theorem prefixRunsThePrefixedInstruction : Obligations.PrefixRunsThePrefixedInstruction := by
  intro s
  refine ⟨cbEffect (busRead s (operandPc s)) (advance 1 s), rfl, ?_⟩
  rw [after_one, decodeBytes, if_pos rfl]
  exact exec_cbInstr _ s

end Sys2Proof.Machine

/-!
PROOFS. Interrupts, the idle modes and the host's register calls (60_exceptions.md R1106 to R1144): a dispatch is a push of the
return address followed by a jump to a vector, and the cycles of a wake are all that tells a HALTED step from a RUNNING one.
-/

namespace Sys2Proof.Machine

/-! ### The pending sources -/

/-- The numbers of the interrupt sources, one by one (R1108). -/
theorem lt_five {k : Nat} (h : k < 5) : k = 0 ∨ k = 1 ∨ k = 2 ∨ k = 3 ∨ k = 4 := by omega

theorem pending_getLsbD (s : State) {k : Nat} (hk : k < 5) : (pending s).getLsbD k = (s.ie &&& s.ifr).getLsbD k := by
  have hmask : (0x1F : Byte).getLsbD k = true := by
    rcases lt_five hk with rfl | rfl | rfl | rfl | rfl <;> rfl
  rw [pending, BitVec.getLsbD_and, hmask, Bool.and_true]

theorem ne_zero_of_getLsbD {p : Byte} {k : Nat} (h : p.getLsbD k = true) : p ≠ 0 := by
  rintro rfl
  exact Bool.false_ne_true (BitVec.getLsbD_zero.symm.trans h)

/-- The lowest source is the one bit that is set with none below it (R1108). -/
theorem lowestSource_eq {p : Byte} {k : Nat} (hk : k < 5) (hset : p.getLsbD k = true)
    (hlow : ∀ j < k, p.getLsbD j = false) : lowestSource p = k := by
  unfold lowestSource
  rcases lt_five hk with rfl | rfl | rfl | rfl | rfl <;>
    simp (disch := decide) only [hset, hlow, if_true, if_false, Bool.false_eq_true]

/-! ### The dispatch -/

/-- What the pushes of a dispatch start from (R1110). -/
def disarmed (s : State) : State := { s with ime := false, eiPending := false, haltBug := false }

/-- The state after both pushes of a dispatch, with PC and IF still to be written (R1110). -/
def dispatchPushed (s : State) : State := push16 (dispatchReturn s) (disarmed s)

theorem dispatchPushed_eq_busWrite (s : State) : dispatchPushed s =
    busWrite { dispatchHighPush s with sp := s.sp - 2 } (s.sp - 2) (lo (dispatchReturn s)) := by
  have hsp : (dispatchHighPush s).sp - 1 = s.sp - 2 := by
    rw [dispatchHighPush, busWrite_sp]
    bv_omega
  rw [← hsp]
  rfl

/-- The vector is chosen by what is pending between the two pushes (R1110). -/
theorem dispatchInterrupt_eq (s : State) : dispatchInterrupt s =
    if pending (dispatchHighPush s) = 0 then { dispatchPushed s with pc := 0x0000 }
    else { dispatchPushed s with
      ifr := (dispatchPushed s).ifr &&& ~~~(1#8 <<< lowestSource (pending (dispatchHighPush s)))
      pc := vector (lowestSource (pending (dispatchHighPush s))) } := rfl

/-- The state after a dispatch to source `k` (R1109, R1110). -/
def dispatchedTo (k : Nat) (s : State) : State :=
  { dispatchPushed s with
    pc := BitVec.ofNat 16 (0x0040 + 8 * k)
    ifr := (dispatchPushed s).ifr &&& (0xFF ^^^ (1#8 <<< k))
    cycles := s.cycles + 20 }

theorem dispatchPushed_cycles (s : State) : (dispatchPushed s).cycles = s.cycles := push16_cycles _ _

theorem step_of_dispatches {s : State} (hmode : s.mode = .running) (hd : Dispatches s) :
    step s = .next (charge 20 (dispatchInterrupt s)) := by
  simp only [step, engineStep, runStep, hmode, if_pos hd, Nat.zero_add]

/-- A dispatch whose first push cancels every pending source (R1110). -/
theorem step_of_dispatch_cancelled {s : State} (hmode : s.mode = .running) (hd : Dispatches s)
    (hp : pending (dispatchHighPush s) = 0) :
    step s = .next { dispatchPushed s with pc := 0x0000, cycles := s.cycles + 20 } := by
  rw [step_of_dispatches hmode hd, dispatchInterrupt_eq, if_pos hp, charge, dispatchPushed_cycles]

/-- A dispatch to source `k`, the lowest that is pending between the pushes (R1108, R1109, R1110). -/
theorem step_of_dispatch_to {s : State} (hmode : s.mode = .running) (hd : Dispatches s) {k : Nat} (hk : k < 5)
    (hset : (pending (dispatchHighPush s)).getLsbD k = true)
    (hlow : ∀ j < k, (pending (dispatchHighPush s)).getLsbD j = false) :
    step s = .next (dispatchedTo k s) := by
  rw [step_of_dispatches hmode hd, dispatchInterrupt_eq, if_neg (ne_zero_of_getLsbD hset), lowestSource_eq hk hset hlow,
    BitVec.not_def, charge, dispatchPushed_cycles]
  rfl

/-- Settles O19: the two pushes are `dispatchHighPush` and `dispatchPushed`. -/
theorem interruptDispatch : Obligations.InterruptDispatch := by
  rintro s _ low _ _ hmode hime hp hhold rfl rfl rfl hlow
  have hpushed : low = dispatchPushed s := hlow.trans (dispatchPushed_eq_busWrite s).symm
  have hd : Dispatches s := ⟨hime, hp, hhold⟩
  subst hpushed
  exact ⟨step_of_dispatch_cancelled hmode hd, fun k hk => step_of_dispatch_to hmode hd hk⟩

/-! ### A dispatch whose pushes leave IE and IF alone -/

theorem pending_dispatchHighPush {s : State} (hie : s.sp - 1 ≠ 0xFFFF) (hif : s.sp - 1 ≠ 0xFF0F) :
    pending (dispatchHighPush s) = pending s := by
  simp only [pending, dispatchHighPush, busWrite_ie_of_ne _ _ hie, busWrite_ifr_of_ne _ _ hif]

theorem push16_ifr_of_ne {s : State} (v : Word) (h1 : s.sp - 1 ≠ 0xFF0F) (h2 : s.sp - 2 ≠ 0xFF0F) :
    (push16 v s).ifr = s.ifr := by
  have hsp : s.sp - 1 - 1 = s.sp - 2 := by bv_omega
  simp only [push16, busWrite_sp, hsp, busWrite_ifr_of_ne _ _ h1, busWrite_ifr_of_ne _ _ h2]

theorem dispatchedTo_engine (k : Nat) (s : State) : (dispatchedTo k s).engine =
    { s.engine with ime := false, eiPending := false, cycles := s.cycles + 20 } := by
  show { (dispatchPushed s).engine with cycles := s.cycles + 20 } = _
  rw [dispatchPushed, push16_engine]
  rfl

theorem dispatchedTo_ifr {k : Nat} {s : State} (h1 : s.sp - 1 ≠ 0xFF0F) (h2 : s.sp - 2 ≠ 0xFF0F) :
    (dispatchedTo k s).ifr = s.ifr &&& (0xFF ^^^ (1#8 <<< k)) :=
  congrArg (· &&& (0xFF ^^^ (1#8 <<< k))) (push16_ifr_of_ne (s := disarmed s) _ h1 h2)

/-- The IF bit that a dispatch clears is seen at IF's own address only (R127). -/
theorem busRead_dispatchedTo (k : Nat) (s : State) {addr : Word} (h : addr ≠ ifAddr) :
    busRead (dispatchedTo k s) addr = busRead (dispatchPushed s) addr := by
  simp only [busRead, if_neg h]
  rfl

/-- Settles O20: without HALT_BUG the dispatch pushes PC (`push16_storesTwo`), and what is pending is the same between the
pushes as before them. -/
theorem dispatchGoesToTheLowestPendingVector : Obligations.DispatchGoesToTheLowestPendingVector := by
  intro s k hram hmode hime hbug hhold hk hset hlow hie hif hif2
  have hsame : ∀ j < 5, (pending (dispatchHighPush s)).getLsbD j = (s.ie &&& s.ifr).getLsbD j := fun j hj => by
    rw [pending_dispatchHighPush hie hif, pending_getLsbD s hj]
  have hd : Dispatches s := ⟨hime, ne_zero_of_getLsbD ((pending_getLsbD s hk).trans hset), hhold⟩
  have hstep := step_of_dispatch_to hmode hd hk ((hsame k hk).trans hset)
    fun j hj => (hsame j (by omega)).trans (hlow j hj)
  have hret : dispatchReturn s = s.pc := by
    rw [dispatchReturn, hbug]
    rfl
  obtain ⟨hhigh, hlower, hother, hmstate⟩ : StoresTwo (s.sp - 1) (hi s.pc) (s.sp - 2) (lo s.pc) s (dispatchPushed s) :=
    push16_storesTwo (s' := disarmed s) rfl rfl (by rw [dispatchPushed, hret])
  refine ⟨dispatchedTo k s, hstep, rfl, push16_regs _ (disarmed s), push16_haltBug _ (disarmed s), dispatchedTo_engine k s,
    dispatchedTo_ifr hif hif2, hmstate, fun hw => ?_, fun hw => ?_, fun addr hne h1 h2 => ?_⟩
  · exact (busRead_dispatchedTo k s hif).trans (hhigh hram hw _ rfl)
  · exact (busRead_dispatchedTo k s hif2).trans (hlower hram hw _ rfl)
  · exact (busRead_dispatchedTo k s hne).trans (hother addr h1 h2)

/-! ### Interrupt requests -/

theorem busRead_ifAddr (s : State) : busRead s ifAddr = s.ifr := rfl

theorem busWrite_ifAddr (s : State) (v : Byte) : busWrite s ifAddr v = { s with ifr := v } := rfl

/-- Settles O26: the request writes IF with bit `k` set (`getLsbD_or_bit`). -/
theorem requestInterruptSetsOneBit : Obligations.RequestInterruptSetsOneBit := by
  intro s k
  refine ⟨fun hk => ?_, fun hk => if_neg (by omega)⟩
  have hbit (j : Nat) : (s.ifr ||| (1#8 <<< k)).getLsbD j = if j = k then true else s.ifr.getLsbD j :=
    getLsbD_or_bit s.ifr (by omega) j
  refine ⟨{ s with ifr := s.ifr ||| (1#8 <<< k) }, ?_, rfl, (hbit k).trans (if_pos rfl),
    fun j hj => (hbit j).trans (if_neg hj)⟩
  rw [requestInterrupt, if_pos hk, busRead_ifAddr, busWrite_ifAddr]

/-! ### HALTED and STOPPED -/

theorem retire_eq_charge (wake : Nat) (cost : Cost) (s t : State) :
    retire wake cost s t = charge wake (retire 0 cost s t) := by
  simp only [retire, charge, Nat.zero_add, Nat.add_assoc, Nat.add_comm wake]

/-- What a RUNNING step does after a wake: the same as without it, and the cycles of the wake unless it faults (log 22). -/
def AddsWake (wake : Nat) (without withWake : Result) : Prop :=
  ∃ t, without = .next t ∧ withWake = .next (if t.mode = .faulted then t else charge wake t)

theorem fetchExecute_addsWake {s : State} (hmode : s.mode = .running) (wake : Nat) :
    AddsWake wake (fetchExecute 0 s) (fetchExecute wake s) := by
  cases he : fetchedEntry s with
  | none => exact ⟨_, fetchExecute_of_no_entry 0 he, fetchExecute_of_no_entry wake he⟩
  | some entry =>
    by_cases hrun : entry.gk = true → s.cfg.gkAdmitted = true
    · have hadm : Admitted s entry := ⟨he, hrun⟩
      obtain ⟨r, hx, ha⟩ := hadm.exec_answers
      have hr : (retire 0 entry.cost s r).mode ≠ .faulted := by
        rcases ha.mode with hm | ⟨hm, -⟩ | ⟨hm, -⟩ <;>
          simp only [retire_mode, hm, hmode, ne_eq, reduceCtorEq, not_false_eq_true]
      refine ⟨_, fetchExecute_of_admitted 0 hadm hx, ?_⟩
      rw [if_neg hr, fetchExecute_of_admitted wake hadm hx, retire_eq_charge]
    · obtain ⟨hgk, hoff⟩ := Classical.not_imp.mp hrun
      replace hoff := eq_false_of_ne_true hoff
      exact ⟨_, fetchExecute_of_not_admitted 0 he hgk hoff, fetchExecute_of_not_admitted wake he hgk hoff⟩

theorem runStep_addsWake {s : State} (hmode : s.mode = .running) (wake : Nat) :
    AddsWake wake (runStep 0 s) (runStep wake s) := by
  by_cases hd : Dispatches s
  · have hr : (charge 20 (dispatchInterrupt s)).mode ≠ .faulted := by
      rw [charge_mode, dispatchInterrupt_mode, hmode]
      nofun
    refine ⟨charge 20 (dispatchInterrupt s), if_pos hd, ?_⟩
    rw [if_neg hr, runStep, if_pos hd]
    simp only [charge, Nat.add_assoc, Nat.add_comm wake]
  · simp only [runStep, if_neg hd]
    exact fetchExecute_addsWake hmode wake

/-- Settles O14: a woken step runs at `awake s` (`runStep_addsWake`). -/
theorem haltedIdlesOrWakes : Obligations.HaltedIdlesOrWakes := by
  intro s hmode
  refine ⟨fun hp => ?_, fun hp => ?_⟩
  · have hnone : pending s = 0 := hp
    simp only [step, engineStep, hmode, if_pos hnone, charge]
  · have hsome : pending s ≠ 0 := hp
    have hstep : step s = runStep 4 (awake s) := by simp only [step, engineStep, hmode, if_neg hsome, awake]
    rw [hstep]
    exact runStep_addsWake (awake_mode s) 4

/-- Settles O15: STOPPED has a branch of its own in the step and in the host's wake. -/
theorem stoppedIdlesUntilTheWake : Obligations.StoppedIdlesUntilTheWake := by
  intro s
  refine ⟨fun hmode => ⟨?_, if_pos hmode⟩, hostWake_of_ne_stopped⟩
  simp only [step, engineStep, hmode, charge]

/-! ### Register writes of the host -/

/-- Whatever register it names, set_reg keeps PC but for its own name, the engine state and memory (R1144). -/
theorem setReg_frame (s : State) (name : RegName) (v : Word) :
    (setReg s name v).pc = (if name = .pc then v else s.pc) ∧ (setReg s name v).haltBug = s.haltBug ∧
      (setReg s name v).engine = s.engine ∧ SameMemory s (setReg s name v) := by
  cases name <;> exact ⟨rfl, rfl, rfl, sameMemory_of_mem rfl⟩

/-- Settles O60: each listed value is the register file after the call, and the rest is `setReg_frame`. -/
theorem setRegWritesOneRegister : Obligations.SetRegWritesOneRegister := by
  intro s v x hx
  have hregs : (setReg s x.1 v).regs = x.2 := apply_eq_of_mem_map (f := fun name => (setReg s name v).regs)
    (xs := [.a, .f, .b, .c, .d, .e, .h, .l, .af, .bc, .de, .hl, .pc, .sp]) hx
  exact ⟨hregs, setReg_frame s x.1 v⟩

end Sys2Proof.Machine

/-!
PROOFS. Initialization (70_reset_and_hazards.md R1200 to R1203): the ROM that an image gives, and what a catalog document answers,
a load error or a machine whose dispatch tables hold the document's opcodes.
-/

namespace Sys2Proof.Machine

/-! ### The ROM load -/

theorem Memory.read_of_forall_ne {m : Memory} {key : Nat} (h : ∀ x ∈ m, x.1 ≠ key) : m.read key = Memory.unlisted := by
  induction m with
  | nil => rfl
  | cons x m ih =>
    obtain ⟨k, v⟩ := x
    obtain ⟨hk, hm⟩ := List.forall_mem_cons.mp h
    rw [Memory.read, if_neg hk, ih hm]

/-- Bytes laid out from a key on read back in order, and as unlisted after their end (R1201). -/
theorem Memory.read_ofBytes (start k : Nat) (vs : List Byte) :
    (Memory.ofBytes start vs).read (start + k) = vs.getD k Memory.unlisted := by
  induction vs generalizing start k with
  | nil => rfl
  | cons v vs ih =>
    unfold Memory.ofBytes
    cases k with
    | zero =>
      split
      · next hv =>
        rw [Memory.read_of_forall_ne, List.getD_cons_zero, hv]
        intro x hx
        have hkey := (Memory.ofBytes_keys (start + 1) vs x hx).1
        omega
      · exact if_pos rfl
    | succ k =>
      have hnext : start + (k + 1) = start + 1 + k := by omega
      rw [hnext, List.getD_cons_succ, ← ih]
      split
      · rfl
      · exact if_neg (by omega)

theorem initRom_read {capacity k : Nat} (h : k < capacity) (image : List Byte) :
    (initRom capacity image).read k = image.getD k 0x00 := by
  have hread := Memory.read_ofBytes 0 k (image.take capacity)
  rw [Nat.zero_add] at hread
  rw [initRom, hread, List.getD_eq_getElem?_getD, List.getD_eq_getElem?_getD, List.getElem?_take_of_lt h]
  rfl

/-- Under NO_MAPPER with the default ROM_CAPACITY the ROMX window shows the image at its own address (R204). -/
theorem romxOffset_noMapper {s : State} (hcap : s.cfg.romCapacity = 0x8000) (hmap : s.cfg.mapper = .noMapper) {addr : Word}
    (hlow : 0x4000 ≤ addr.toNat) (hhigh : addr.toNat ≤ 0x7FFF) : romxOffset s addr = addr.toNat := by
  rw [romxOffset, hmap, mapperBank_noMapper, hcap]
  omega

/-- Settles O29: both windows read ROM at an offset below ROM_CAPACITY (`initRom_read`). -/
theorem romLoad : Obligations.RomLoad := by
  rintro cfg p image s rfl
  have hread {k : Nat} (hk : k < cfg.romCapacity) : (resetState cfg p image).rom.read k = image.getD k 0x00 :=
    initRom_read hk image
  have hcap : 0x8000 ≤ cfg.romCapacity := Nat.le_add_right _ _
  have hrom0 (addr : Word) (h : addr.toNat ≤ 0x3FFF) :
      busRead (resetState cfg p image) addr = image.getD addr.toNat 0x00 := by
    rw [busRead_rom0 _ h, hread (by omega)]
  refine ⟨fun k hk => hread hk, initRom_keys cfg.romCapacity image, hrom0, fun addr h hdefault hmap => ?_⟩
  by_cases hlow : addr.toNat ≤ 0x3FFF
  · exact hrom0 addr hlow
  · rw [busRead_romx _ (by omega) h, romxOffset_noMapper hdefault hmap (by omega) h, hread (by omega)]

/-! ### What initialization answers to a document -/

section Document
variable {gk : Bool} {banks : Nat} {mapper : Mapper} {hold : Bool} {p : PowerOn} {image : List Byte} {doc : CatalogDoc}

/-- A machine is built from the two maps when both load (R1200). -/
theorem initMachine_document_eq_ok_iff {m : Initialized} :
    initMachine gk banks mapper hold p (.document doc) image = .ok m ↔
      ∃ main w1 cb w2, loadMap false doc.unprefixed = .ok (main, w1) ∧ loadMap true doc.cbprefixed = .ok (cb, w2) ∧
        m = ⟨resetState ⟨gk, banks, mapper, .supplied main cb, hold⟩ p image, w1 ++ w2⟩ := by
  rw [initMachine_document]
  constructor
  · intro h
    cases hmain : loadMap false doc.unprefixed with
    | error err =>
      rw [hmain] at h
      cases h
    | ok r =>
      cases hcb : loadMap true doc.cbprefixed with
      | error err =>
        rw [hmain, hcb] at h
        cases h
      | ok q =>
        rw [hmain, hcb] at h
        cases h
        exact ⟨r.1, r.2, q.1, q.2, rfl, rfl, rfl⟩
  · rintro ⟨main, w1, cb, w2, hmain, hcb, rfl⟩
    rw [hmain, hcb]
    rfl

/-- A document gives a machine exactly when every entry that is looked at passes the checks (R1202). -/
theorem initMachine_document_ok_iff :
    (∃ m, initMachine gk banks mapper hold p (.document doc) image = .ok m) ↔
      ∀ prefixed, ∀ x ∈ docRows doc prefixed, ∀ code, LooksAt prefixed x.1 code → PassesChecks prefixed code x.2 := by
  rw [Bool.forall_bool]
  simp only [docRows, ← loadMap_ok_iff, initMachine_document_eq_ok_iff]
  constructor
  · rintro ⟨_, main, w1, cb, w2, hmain, hcb, -⟩
    exact ⟨⟨_, hmain⟩, ⟨_, hcb⟩⟩
  · rintro ⟨⟨⟨main, w1⟩, hmain⟩, ⟨⟨cb, w2⟩, hcb⟩⟩
    exact ⟨_, main, w1, cb, w2, hmain, hcb, rfl⟩

/-- The machine depends on the costs that the two maps give, not on their warnings. -/
theorem initMachine_document_machine :
    (initMachine gk banks mapper hold p (.document doc) image).map Initialized.machine =
      ((loadMap false doc.unprefixed).map Prod.fst).bind fun main => ((loadMap true doc.cbprefixed).map Prod.fst).map fun cb =>
        resetState ⟨gk, banks, mapper, .supplied main cb, hold⟩ p image := by
  rw [initMachine_document]
  cases loadMap false doc.unprefixed with
  | error err => rfl
  | ok r => cases loadMap true doc.cbprefixed <;> rfl

/-- The tables of a loaded document: the costs that its map of either kind gives (R1203). -/
theorem catalogCost_of_initMachine {m : Initialized} (h : initMachine gk banks mapper hold p (.document doc) image = .ok m)
    (prefixed : Bool) : ∃ costs warnings, loadMap prefixed (docRows doc prefixed) = .ok (costs, warnings) ∧
      ∀ code, catalogCost m.machine.cfg.catalog prefixed code = lookupCost costs code := by
  obtain ⟨main, w1, cb, w2, hmain, hcb, rfl⟩ := initMachine_document_eq_ok_iff.mp h
  cases prefixed with
  | false => exact ⟨main, w1, hmain, fun _ => rfl⟩
  | true => exact ⟨cb, w2, hcb, fun _ => rfl⟩

end Document

/-! ### Bad documents -/

theorem not_looksAt_of_malformed {key : List Char} (h : keyByte key = none) (prefixed : Bool) (code : Byte) :
    ¬LooksAt prefixed key code := by
  rintro ⟨hkey, -⟩
  cases h.symm.trans hkey

theorem not_looksAt_of_hole {key : List Char} {hole : Byte} (hmem : hole ∈ holes) (h : keyByte key = some hole) (code : Byte) :
    ¬LooksAt false key code := by
  rintro ⟨hkey, hno⟩
  cases h.symm.trans hkey
  exact hno ⟨rfl, hmem⟩

/-- Settles O30: a bad entry contradicts `initMachine_document_ok_iff`, and a row that is not looked at leaves the costs of its
map as they are (`loadMap_skip`). -/
theorem badCatalogGivesNoMachine : Obligations.BadCatalogGivesNoMachine := by
  intro gk banks mapper hold p image
  refine ⟨?_, fun doc prefixed key e code hrow hlook hbad => ?_,
    fun before after other key e => ⟨fun hkey => ?_, fun hkey => ?_⟩⟩
  · simp only [List.forall_mem_cons]
    exact ⟨⟨.badDocument, rfl⟩, ⟨.badDocument, rfl⟩, List.forall_mem_nil _⟩
  · cases hm : initMachine gk banks mapper hold p (.document doc) image with
    | error err => exact ⟨err, rfl⟩
    | ok m => exact absurd (initMachine_document_ok_iff.mp ⟨m, hm⟩ prefixed (key, e) hrow code hlook) hbad
  · have hskip : ∀ code, ¬LooksAt false key code := by
      rcases hkey with hnone | ⟨hole, hmem, hkey⟩
      · exact not_looksAt_of_malformed hnone false
      · exact not_looksAt_of_hole hmem hkey
    simp only [initMachine_document_machine, loadMap_skip hskip]
  · simp only [initMachine_document_machine, loadMap_skip (not_looksAt_of_malformed hkey true)]

/-! ### Documents that load -/

/-- Settles O59: such a document loads (`initMachine_document_ok_iff`), and its warnings are those of its two maps
(`loadMap_ok`). -/
theorem catalogThatPassesLoads : Obligations.CatalogThatPassesLoads := by
  intro gk banks mapper hold p image
  refine ⟨rfl, fun doc hpass => ?_⟩
  obtain ⟨m, hm⟩ := (initMachine_document_ok_iff (gk := gk) (banks := banks) (mapper := mapper) (hold := hold) (p := p)
    (image := image)).mpr fun prefixed x hx code => hpass prefixed x.1 x.2 code hx
  obtain ⟨main, w1, cb, w2, hmain, hcb, rfl⟩ := initMachine_document_eq_ok_iff.mp hm
  refine ⟨main, cb, w1 ++ w2, hm, fun key => ?_⟩
  obtain ⟨-, -, hw1⟩ := loadMap_ok hmain
  obtain ⟨-, -, hw2⟩ := loadMap_ok hcb
  rw [List.mem_append, hw1, hw2, ← and_or_left, Bool.exists_bool]
  rfl

/-- A hole is not looked at, so it has neither an entry nor a row that counts (R315, R1202 f). -/
theorem dispatchEntry_isSome_iff {cfg : Config} {prefixed : Bool} {code : Byte} :
    (dispatchEntry cfg prefixed code).isSome = true ↔
      ¬(prefixed = false ∧ code ∈ holes) ∧ (catalogCost cfg.catalog prefixed code).isSome = true := by
  unfold dispatchEntry
  split
  · next hhole => exact iff_of_false nofun fun h => h.1 hhole
  · next hhole => rw [Option.isSome_map, and_iff_right hhole]

theorem dispatchEntry_eq_some {cfg : Config} {prefixed : Bool} {code : Byte} {entry : Entry}
    (h : dispatchEntry cfg prefixed code = some entry) :
    entry.gk = gkMarked prefixed code ∧ catalogCost cfg.catalog prefixed code = some entry.cost := by
  unfold dispatchEntry at h
  split at h
  · cases h
  · obtain ⟨t, ht, rfl⟩ := Option.map_eq_some_iff.mp h
    exact ⟨rfl, ht⟩

/-- Settles O31: the costs of a table are those of the looked-at rows (`loadMap_ok`). -/
theorem dispatchTablesHoldTheListedOpcodes : Obligations.DispatchTablesHoldTheListedOpcodes := by
  intro gk banks mapper hold p image doc m hm prefixed code
  obtain ⟨costs, warnings, hload, hcost⟩ := catalogCost_of_initMachine hm prefixed
  obtain ⟨hlisted, hrow, -⟩ := loadMap_ok hload
  refine ⟨?_, fun entry he => ?_⟩
  · rw [dispatchEntry_isSome_iff, hcost, hlisted]
    exact and_iff_right_of_imp fun ⟨_, _, _, hno⟩ => hno
  · obtain ⟨hgk, hc⟩ := dispatchEntry_eq_some he
    exact ⟨hgk, hrow code entry.cost (hcost code ▸ hc)⟩

end Sys2Proof.Machine
